-- ==== Sys2Proof/Word.lean ====
section
/-! DEFINITION. The widths of the machine (00_scope.md R6, R9): bytes, words, doublewords and the operand numbers
of an instruction word (30_encoding.md R91). -/

namespace Sys2Proof

/-- A byte, the addressable unit (20_memory.md R60). -/
abbrev Byte := BitVec 8

/-- A word: a general register, the pc, an address, an instruction (00_scope.md R6: GRLEN, VALEN, ILEN = 32). -/
abbrev Word := BitVec 32

/-- A doubleword: a floating-point register (00_scope.md R6: FLEN = 64). -/
abbrev DWord := BitVec 64

/-- The number of a general register, `rd`, `rj` or `rk` (30_encoding.md R91). -/
abbrev RegNo := BitVec 5

/-- The number of a floating-point register, `fd`, `fj`, `fk` or `fa` (30_encoding.md R91). -/
abbrev FprNo := BitVec 5

/-- The number of a condition flag, `cd`, `cj` or `ca` (30_encoding.md R91). -/
abbrev CfNo := BitVec 3

/-- A set of IEEE 754-2008 exceptions in the order V Z O U I, bit 4 down to bit 0 (47_fp_arith.md R232). -/
abbrev FpExc := BitVec 5

end Sys2Proof
end

