-- ==== Sys2Proof/Syntax.lean ====
section
/-! DEFINITION. The instructions: one constructor for each row of spec/opcode_table.json, with the operand fields of the
row as raw bits, in the order of the assembler syntax (30_encoding.md R104, R111). -/

namespace Sys2Proof

/-- An instruction of 30_encoding.md R104, or the alias NOP (R137). `offs16`, `offs21` and `offs26` are the assembled
offset fields of R103. -/
inductive Instr where
  -- Integer arithmetic, compare and logic (40_int_arith_logic.md)
  /-- ADD.W, R121. -/
  | addW (rd rj rk : RegNo)
  /-- SUB.W, R122. -/
  | subW (rd rj rk : RegNo)
  /-- SLT, R125. -/
  | slt (rd rj rk : RegNo)
  /-- SLTU, R126. -/
  | sltu (rd rj rk : RegNo)
  /-- NOR, R132. -/
  | nor (rd rj rk : RegNo)
  /-- AND, R130. -/
  | and (rd rj rk : RegNo)
  /-- OR, R131. -/
  | or (rd rj rk : RegNo)
  /-- XOR, R133. -/
  | xor (rd rj rk : RegNo)
  /-- SLTI, R127. -/
  | slti (rd rj : RegNo) (si12 : BitVec 12)
  /-- SLTUI, R128. -/
  | sltui (rd rj : RegNo) (si12 : BitVec 12)
  /-- ADDI.W, R123. -/
  | addiW (rd rj : RegNo) (si12 : BitVec 12)
  /-- ANDI, R134. -/
  | andi (rd rj : RegNo) (ui12 : BitVec 12)
  /-- ORI, R135. -/
  | ori (rd rj : RegNo) (ui12 : BitVec 12)
  /-- XORI, R136. -/
  | xori (rd rj : RegNo) (ui12 : BitVec 12)
  /-- LU12I.W, R124. -/
  | lu12iW (rd : RegNo) (si20 : BitVec 20)
  /-- PCADDU12I, R129. -/
  | pcaddu12i (rd : RegNo) (si20 : BitVec 20)
  /-- NOP, R137. -/
  | nop
  -- Integer multiply and divide (41_int_muldiv.md)
  /-- MUL.W, R141. -/
  | mulW (rd rj rk : RegNo)
  /-- MULH.W, R142. -/
  | mulhW (rd rj rk : RegNo)
  /-- MULH.WU, R143. -/
  | mulhWu (rd rj rk : RegNo)
  /-- DIV.W, R144. -/
  | divW (rd rj rk : RegNo)
  /-- MOD.W, R145. -/
  | modW (rd rj rk : RegNo)
  /-- DIV.WU, R146. -/
  | divWu (rd rj rk : RegNo)
  /-- MOD.WU, R147. -/
  | modWu (rd rj rk : RegNo)
  -- Shifts (42_int_shift.md)
  /-- SLL.W, R151. -/
  | sllW (rd rj rk : RegNo)
  /-- SRL.W, R152. -/
  | srlW (rd rj rk : RegNo)
  /-- SRA.W, R153. -/
  | sraW (rd rj rk : RegNo)
  /-- SLLI.W, R154. -/
  | slliW (rd rj : RegNo) (ui5 : BitVec 5)
  /-- SRLI.W, R155. -/
  | srliW (rd rj : RegNo) (ui5 : BitVec 5)
  /-- SRAI.W, R156. -/
  | sraiW (rd rj : RegNo) (ui5 : BitVec 5)
  -- Branches and jumps (43_branch.md)
  /-- JIRL, R171. -/
  | jirl (rd rj : RegNo) (offs16 : BitVec 16)
  /-- B, R167. -/
  | b (offs26 : BitVec 26)
  /-- BL, R168. -/
  | bl (offs26 : BitVec 26)
  /-- BEQ, R161. -/
  | beq (rj rd : RegNo) (offs16 : BitVec 16)
  /-- BNE, R162. -/
  | bne (rj rd : RegNo) (offs16 : BitVec 16)
  /-- BLT, R163. -/
  | blt (rj rd : RegNo) (offs16 : BitVec 16)
  /-- BGE, R164. -/
  | bge (rj rd : RegNo) (offs16 : BitVec 16)
  /-- BLTU, R165. -/
  | bltu (rj rd : RegNo) (offs16 : BitVec 16)
  /-- BGEU, R166. -/
  | bgeu (rj rd : RegNo) (offs16 : BitVec 16)
  -- Integer loads, stores, prefetch (44_load_store.md)
  /-- LD.B, R176. -/
  | ldB (rd rj : RegNo) (si12 : BitVec 12)
  /-- LD.H, R177. -/
  | ldH (rd rj : RegNo) (si12 : BitVec 12)
  /-- LD.W, R178. -/
  | ldW (rd rj : RegNo) (si12 : BitVec 12)
  /-- ST.B, R181. -/
  | stB (rd rj : RegNo) (si12 : BitVec 12)
  /-- ST.H, R182. -/
  | stH (rd rj : RegNo) (si12 : BitVec 12)
  /-- ST.W, R183. -/
  | stW (rd rj : RegNo) (si12 : BitVec 12)
  /-- LD.BU, R179. -/
  | ldBu (rd rj : RegNo) (si12 : BitVec 12)
  /-- LD.HU, R180. -/
  | ldHu (rd rj : RegNo) (si12 : BitVec 12)
  /-- PRELD, R184. -/
  | preld (hint : BitVec 5) (rj : RegNo) (si12 : BitVec 12)
  -- LL.W, SC.W and the barriers (45_atomic_barrier.md)
  /-- LL.W, R190. -/
  | llW (rd rj : RegNo) (si14 : BitVec 14)
  /-- SC.W, R191. -/
  | scW (rd rj : RegNo) (si14 : BitVec 14)
  /-- DBAR, R193. -/
  | dbar (hint : BitVec 15)
  /-- IBAR, R194. -/
  | ibar (hint : BitVec 15)
  -- System, counters, privileged instructions (46_system_privileged.md)
  /-- RDCNTID, R205. -/
  | rdcntid (rj : RegNo)
  /-- RDCNTVL.W, R203. -/
  | rdcntvlW (rd : RegNo)
  /-- RDCNTVH.W, R204. -/
  | rdcntvhW (rd : RegNo)
  /-- BREAK, R201. -/
  | brk (code : BitVec 15)
  /-- SYSCALL, R200. -/
  | syscall (code : BitVec 15)
  /-- CSRRD, R208. -/
  | csrrd (rd : RegNo) (csr : BitVec 14)
  /-- CSRWR, R209. -/
  | csrwr (rd : RegNo) (csr : BitVec 14)
  /-- CSRXCHG, R210. -/
  | csrxchg (rd rj : RegNo) (csr : BitVec 14)
  /-- CACOP, R211. -/
  | cacop (code : BitVec 5) (rj : RegNo) (si12 : BitVec 12)
  /-- TLBSRCH, R212. -/
  | tlbsrch
  /-- TLBRD, R213. -/
  | tlbrd
  /-- TLBWR, R214. -/
  | tlbwr
  /-- TLBFILL, R215. -/
  | tlbfill
  /-- ERTN, R216. -/
  | ertn
  /-- IDLE, R217. -/
  | idle (level : BitVec 15)
  /-- INVTLB, R218. -/
  | invtlb (op : BitVec 5) (rj rk : RegNo)
  -- Floating-point arithmetic (47_fp_arith.md)
  /-- FADD.S, R240. -/
  | faddS (fd fj fk : FprNo)
  /-- FADD.D, R241. -/
  | faddD (fd fj fk : FprNo)
  /-- FSUB.S, R242. -/
  | fsubS (fd fj fk : FprNo)
  /-- FSUB.D, R243. -/
  | fsubD (fd fj fk : FprNo)
  /-- FMUL.S, R244. -/
  | fmulS (fd fj fk : FprNo)
  /-- FMUL.D, R245. -/
  | fmulD (fd fj fk : FprNo)
  /-- FDIV.S, R246. -/
  | fdivS (fd fj fk : FprNo)
  /-- FDIV.D, R247. -/
  | fdivD (fd fj fk : FprNo)
  /-- FMAX.S, R256. -/
  | fmaxS (fd fj fk : FprNo)
  /-- FMAX.D, R257. -/
  | fmaxD (fd fj fk : FprNo)
  /-- FMIN.S, R258. -/
  | fminS (fd fj fk : FprNo)
  /-- FMIN.D, R259. -/
  | fminD (fd fj fk : FprNo)
  /-- FMAXA.S, R260. -/
  | fmaxaS (fd fj fk : FprNo)
  /-- FMAXA.D, R261. -/
  | fmaxaD (fd fj fk : FprNo)
  /-- FMINA.S, R262. -/
  | fminaS (fd fj fk : FprNo)
  /-- FMINA.D, R263. -/
  | fminaD (fd fj fk : FprNo)
  /-- FCOPYSIGN.S, R274. -/
  | fcopysignS (fd fj fk : FprNo)
  /-- FCOPYSIGN.D, R275. -/
  | fcopysignD (fd fj fk : FprNo)
  /-- FABS.S, R264. -/
  | fabsS (fd fj : FprNo)
  /-- FABS.D, R265. -/
  | fabsD (fd fj : FprNo)
  /-- FNEG.S, R266. -/
  | fnegS (fd fj : FprNo)
  /-- FNEG.D, R267. -/
  | fnegD (fd fj : FprNo)
  /-- FCLASS.S, R276. -/
  | fclassS (fd fj : FprNo)
  /-- FCLASS.D, R277. -/
  | fclassD (fd fj : FprNo)
  /-- FSQRT.S, R268. -/
  | fsqrtS (fd fj : FprNo)
  /-- FSQRT.D, R269. -/
  | fsqrtD (fd fj : FprNo)
  /-- FRECIP.S, R270. -/
  | frecipS (fd fj : FprNo)
  /-- FRECIP.D, R271. -/
  | frecipD (fd fj : FprNo)
  /-- FRSQRT.S, R272. -/
  | frsqrtS (fd fj : FprNo)
  /-- FRSQRT.D, R273. -/
  | frsqrtD (fd fj : FprNo)
  /-- FMADD.S, R248. -/
  | fmaddS (fd fj fk fa : FprNo)
  /-- FMADD.D, R249. -/
  | fmaddD (fd fj fk fa : FprNo)
  /-- FMSUB.S, R250. -/
  | fmsubS (fd fj fk fa : FprNo)
  /-- FMSUB.D, R251. -/
  | fmsubD (fd fj fk fa : FprNo)
  /-- FNMADD.S, R252. -/
  | fnmaddS (fd fj fk fa : FprNo)
  /-- FNMADD.D, R253. -/
  | fnmaddD (fd fj fk fa : FprNo)
  /-- FNMSUB.S, R254. -/
  | fnmsubS (fd fj fk fa : FprNo)
  /-- FNMSUB.D, R255. -/
  | fnmsubD (fd fj fk fa : FprNo)
  -- Floating-point compare and conversion (48_fp_cmp_cvt.md)
  /-- FCVT.S.D, R295. -/
  | fcvtSD (fd fj : FprNo)
  /-- FCVT.D.S, R296. -/
  | fcvtDS (fd fj : FprNo)
  /-- FTINTRM.W.S, R302. -/
  | ftintrmWS (fd fj : FprNo)
  /-- FTINTRM.W.D, R303. -/
  | ftintrmWD (fd fj : FprNo)
  /-- FTINTRP.W.S, R304. -/
  | ftintrpWS (fd fj : FprNo)
  /-- FTINTRP.W.D, R305. -/
  | ftintrpWD (fd fj : FprNo)
  /-- FTINTRZ.W.S, R306. -/
  | ftintrzWS (fd fj : FprNo)
  /-- FTINTRZ.W.D, R307. -/
  | ftintrzWD (fd fj : FprNo)
  /-- FTINTRNE.W.S, R308. -/
  | ftintrneWS (fd fj : FprNo)
  /-- FTINTRNE.W.D, R309. -/
  | ftintrneWD (fd fj : FprNo)
  /-- FTINT.W.S, R300. -/
  | ftintWS (fd fj : FprNo)
  /-- FTINT.W.D, R301. -/
  | ftintWD (fd fj : FprNo)
  /-- FFINT.S.W, R297. -/
  | ffintSW (fd fj : FprNo)
  /-- FFINT.D.W, R298. -/
  | ffintDW (fd fj : FprNo)
  /-- FCMP.cond.S, R292. -/
  | fcmpS (cond : BitVec 5) (cd : CfNo) (fj fk : FprNo)
  /-- FCMP.cond.D, R293. -/
  | fcmpD (cond : BitVec 5) (cd : CfNo) (fj fk : FprNo)
  -- Floating-point moves, flag branches, loads and stores (49_fp_move_branch_mem.md)
  /-- FMOV.S, R321. -/
  | fmovS (fd fj : FprNo)
  /-- FMOV.D, R322. -/
  | fmovD (fd fj : FprNo)
  /-- MOVGR2FR.W, R324. -/
  | movgr2frW (fd : FprNo) (rj : RegNo)
  /-- MOVGR2FRH.W, R325. -/
  | movgr2frhW (fd : FprNo) (rj : RegNo)
  /-- MOVFR2GR.S, R326. -/
  | movfr2grS (rd : RegNo) (fj : FprNo)
  /-- MOVFRH2GR.S, R327. -/
  | movfrh2grS (rd : RegNo) (fj : FprNo)
  /-- MOVGR2FCSR, R333. -/
  | movgr2fcsr (fcsr : BitVec 5) (rj : RegNo)
  /-- MOVFCSR2GR, R334. -/
  | movfcsr2gr (rd : RegNo) (fcsr : BitVec 5)
  /-- MOVFR2CF, R328. -/
  | movfr2cf (cd : CfNo) (fj : FprNo)
  /-- MOVCF2FR, R329. -/
  | movcf2fr (fd : FprNo) (cj : CfNo)
  /-- MOVGR2CF, R330. -/
  | movgr2cf (cd : CfNo) (rj : RegNo)
  /-- MOVCF2GR, R331. -/
  | movcf2gr (rd : RegNo) (cj : CfNo)
  /-- FSEL, R323. -/
  | fsel (fd fj fk : FprNo) (ca : CfNo)
  /-- FLD.S, R337. -/
  | fldS (fd : FprNo) (rj : RegNo) (si12 : BitVec 12)
  /-- FST.S, R339. -/
  | fstS (fd : FprNo) (rj : RegNo) (si12 : BitVec 12)
  /-- FLD.D, R338. -/
  | fldD (fd : FprNo) (rj : RegNo) (si12 : BitVec 12)
  /-- FST.D, R340. -/
  | fstD (fd : FprNo) (rj : RegNo) (si12 : BitVec 12)
  /-- BCEQZ, R335. -/
  | bceqz (cj : CfNo) (offs21 : BitVec 21)
  /-- BCNEZ, R336. -/
  | bcnez (cj : CfNo) (offs21 : BitVec 21)
deriving DecidableEq, Repr

end Sys2Proof
end

