-- ==== Sys2Proof/WellFormed.lean ====
section
/-! DEFINITION. The instructions that are the reading of their own word. The field widths of `Instr` leave three
conditions to check (30_encoding.md R107, R137). -/

namespace Sys2Proof

/-- CSRXCHG has `rj` in 2..31: "rj = 0 and rj = 1 are CSRRD and CSRWR, never CSRXCHG" (46_system_privileged.md R210). -/
def csrxchgOperandOk (rj : RegNo) : Bool := rj != 0 && rj != 1

/-- The word 0x00006000 matches RDCNTID and RDCNTVL.W (30_encoding.md R107 (b)); the model reads it as RDCNTID, the earlier
row (log 19), so RDCNTVL.W has `rd` other than 0. -/
def rdcntvlOperandOk (rd : RegNo) : Bool := rd != 0

/-- The word 0x03400000 is NOP (40_int_arith_logic.md R137); the model reads it by that name (log 18), so ANDI has an
operand other than 0. -/
def andiOperandsOk (rd rj : RegNo) (ui12 : BitVec 12) : Bool := rd != 0 || rj != 0 || ui12 != 0

/-- Whether the decoder reads the instruction back from its own word. -/
def Instr.wellFormed : Instr → Bool
  | .csrxchg _ rj _ => csrxchgOperandOk rj
  | .rdcntvlW rd => rdcntvlOperandOk rd
  | .andi rd rj ui12 => andiOperandsOk rd rj ui12
  | .rdcntid .. | .rdcntvhW .. | .addW .. | .subW .. | .slt .. | .sltu .. | .nor .. | .and .. | .or ..
  | .xor .. | .sllW .. | .srlW .. | .sraW .. | .mulW .. | .mulhW .. | .mulhWu .. | .divW .. | .modW ..
  | .divWu .. | .modWu .. | .brk .. | .syscall .. | .slliW .. | .srliW .. | .sraiW .. | .faddS .. | .faddD ..
  | .fsubS .. | .fsubD .. | .fmulS .. | .fmulD .. | .fdivS .. | .fdivD .. | .fmaxS .. | .fmaxD .. | .fminS ..
  | .fminD .. | .fmaxaS .. | .fmaxaD .. | .fminaS .. | .fminaD .. | .fcopysignS .. | .fcopysignD .. | .fabsS ..
  | .fabsD .. | .fnegS .. | .fnegD .. | .fclassS .. | .fclassD .. | .fsqrtS .. | .fsqrtD .. | .frecipS ..
  | .frecipD .. | .frsqrtS .. | .frsqrtD .. | .fmovS .. | .fmovD .. | .movgr2frW .. | .movgr2frhW ..
  | .movfr2grS .. | .movfrh2grS .. | .movgr2fcsr .. | .movfcsr2gr .. | .movfr2cf .. | .movcf2fr ..
  | .movgr2cf .. | .movcf2gr .. | .fcvtSD .. | .fcvtDS .. | .ftintrmWS .. | .ftintrmWD .. | .ftintrpWS ..
  | .ftintrpWD .. | .ftintrzWS .. | .ftintrzWD .. | .ftintrneWS .. | .ftintrneWD .. | .ftintWS .. | .ftintWD ..
  | .ffintSW .. | .ffintDW .. | .slti .. | .sltui .. | .addiW .. | .ori .. | .xori .. | .csrrd .. | .csrwr ..
  | .cacop .. | .tlbsrch | .tlbrd | .tlbwr | .tlbfill | .ertn | .idle .. | .invtlb .. | .fmaddS .. | .fmaddD ..
  | .fmsubS .. | .fmsubD .. | .fnmaddS .. | .fnmaddD .. | .fnmsubS .. | .fnmsubD .. | .fcmpS .. | .fcmpD ..
  | .fsel .. | .lu12iW .. | .pcaddu12i .. | .llW .. | .scW .. | .ldB .. | .ldH .. | .ldW .. | .stB .. | .stH ..
  | .stW .. | .ldBu .. | .ldHu .. | .preld .. | .fldS .. | .fstS .. | .fldD .. | .fstD .. | .dbar .. | .ibar ..
  | .bceqz .. | .bcnez .. | .jirl .. | .b .. | .bl .. | .beq .. | .bne .. | .blt .. | .bge .. | .bltu ..
  | .bgeu .. | .nop => true

end Sys2Proof
end

