-- ==== Sys2Proof/Decode.lean ====
section
/-! DEFINITION. The decoder of 30_encoding.md, total on any word, and the encoder written from the same listing (R104).
A row's opcode is the top 6, 7, 8, 10, 12, 17 or 22 bits of the word according to its format (R93 to R102), and no opcode is
the beginning of another, so the decoder looks the opcode up width by width. -/

namespace Sys2Proof

/-- What the decoder reads from a word (30_encoding.md R104 to R106). -/
inductive DecodeResult where
  /-- The word is this instruction. -/
  | ok (i : Instr)
  /-- The word agrees with no row on the row's opcode bits: INE (R105). -/
  | undefinedOpcode
  /-- The word agrees with a row on its opcode bits and with no row on its constant operand bits (R106, R206): it is
  refused. -/
  | reservedField
deriving DecidableEq, Repr

/-! ### Fields (R91, R103) -/

/-- `w[4:0]`: rd, fd, op, the 5-bit hint and code, fcsr of MOVGR2FCSR. -/
def fieldD (w : Word) : BitVec 5 := w.extractLsb' 0 5
/-- `w[9:5]`: rj, fj, fcsr of MOVFCSR2GR. -/
def fieldJ (w : Word) : BitVec 5 := w.extractLsb' 5 5
/-- `w[14:10]`: rk, fk, ui5. -/
def fieldK (w : Word) : BitVec 5 := w.extractLsb' 10 5
/-- `w[19:15]`: fa, cond. -/
def fieldA (w : Word) : BitVec 5 := w.extractLsb' 15 5
/-- `w[2:0]`: cd. -/
def fieldCd (w : Word) : BitVec 3 := w.extractLsb' 0 3
/-- `w[7:5]`: cj. -/
def fieldCj (w : Word) : BitVec 3 := w.extractLsb' 5 3
/-- `w[17:15]`: ca. -/
def fieldCa (w : Word) : BitVec 3 := w.extractLsb' 15 3
/-- `w[21:10]`: si12, ui12. -/
def fieldI12 (w : Word) : BitVec 12 := w.extractLsb' 10 12
/-- `w[23:10]`: si14, csr. -/
def fieldI14 (w : Word) : BitVec 14 := w.extractLsb' 10 14
/-- `w[24:5]`: si20. -/
def fieldI20 (w : Word) : BitVec 20 := w.extractLsb' 5 20
/-- `w[14:0]`: the 15-bit code, hint and level. -/
def fieldCode (w : Word) : BitVec 15 := w.extractLsb' 0 15
/-- `w[25:10]`: offs16. -/
def fieldOffs16 (w : Word) : BitVec 16 := w.extractLsb' 10 16
/-- offs21, the high part of the offset in the low bits of the word: w[4:0] then w[25:10]. -/
def fieldOffs21 (w : Word) : BitVec 21 := (w.extractLsb' 0 5 ++ w.extractLsb' 10 16 : BitVec (5 + 16))
/-- offs26, the high part of the offset in the low bits of the word: w[9:0] then w[25:10]. -/
def fieldOffs26 (w : Word) : BitVec 26 := (w.extractLsb' 0 10 ++ w.extractLsb' 10 16 : BitVec (10 + 16))

/-- An instruction whose constant operand bits are as its row says, or the refusal of R106. -/
def constantBits (asListed : Bool) (i : Instr) : DecodeResult := if asListed then .ok i else .reservedField

/-! ### The opcode map (R104), by the width of the opcode -/

/-- Opcodes of 22 bits, `w[31:10]`: the 2R and 0R formats (R93, R102). -/
def decodeOpcode22 (w : Word) : DecodeResult :=
  match (w.extractLsb' 10 22).toNat with
  | 0x18 => if fieldD w = 0 then .ok (.rdcntid (fieldJ w))
    else constantBits (fieldJ w = 0) (.rdcntvlW (fieldD w))
  | 0x19 => constantBits (fieldJ w = 0) (.rdcntvhW (fieldD w))
  | 0x4501 => .ok (.fabsS (fieldD w) (fieldJ w))
  | 0x4502 => .ok (.fabsD (fieldD w) (fieldJ w))
  | 0x4505 => .ok (.fnegS (fieldD w) (fieldJ w))
  | 0x4506 => .ok (.fnegD (fieldD w) (fieldJ w))
  | 0x450D => .ok (.fclassS (fieldD w) (fieldJ w))
  | 0x450E => .ok (.fclassD (fieldD w) (fieldJ w))
  | 0x4511 => .ok (.fsqrtS (fieldD w) (fieldJ w))
  | 0x4512 => .ok (.fsqrtD (fieldD w) (fieldJ w))
  | 0x4515 => .ok (.frecipS (fieldD w) (fieldJ w))
  | 0x4516 => .ok (.frecipD (fieldD w) (fieldJ w))
  | 0x4519 => .ok (.frsqrtS (fieldD w) (fieldJ w))
  | 0x451A => .ok (.frsqrtD (fieldD w) (fieldJ w))
  | 0x4525 => .ok (.fmovS (fieldD w) (fieldJ w))
  | 0x4526 => .ok (.fmovD (fieldD w) (fieldJ w))
  | 0x4529 => .ok (.movgr2frW (fieldD w) (fieldJ w))
  | 0x452B => .ok (.movgr2frhW (fieldD w) (fieldJ w))
  | 0x452D => .ok (.movfr2grS (fieldD w) (fieldJ w))
  | 0x452F => .ok (.movfrh2grS (fieldD w) (fieldJ w))
  | 0x4530 => .ok (.movgr2fcsr (fieldD w) (fieldJ w))
  | 0x4532 => .ok (.movfcsr2gr (fieldD w) (fieldJ w))
  | 0x4534 => constantBits (w.extractLsb' 3 2 = 0) (.movfr2cf (fieldCd w) (fieldJ w))
  | 0x4535 => constantBits (w.extractLsb' 8 2 = 0) (.movcf2fr (fieldD w) (fieldCj w))
  | 0x4536 => constantBits (w.extractLsb' 3 2 = 0) (.movgr2cf (fieldCd w) (fieldJ w))
  | 0x4537 => constantBits (w.extractLsb' 8 2 = 0) (.movcf2gr (fieldD w) (fieldCj w))
  | 0x4646 => .ok (.fcvtSD (fieldD w) (fieldJ w))
  | 0x4649 => .ok (.fcvtDS (fieldD w) (fieldJ w))
  | 0x4681 => .ok (.ftintrmWS (fieldD w) (fieldJ w))
  | 0x4682 => .ok (.ftintrmWD (fieldD w) (fieldJ w))
  | 0x4691 => .ok (.ftintrpWS (fieldD w) (fieldJ w))
  | 0x4692 => .ok (.ftintrpWD (fieldD w) (fieldJ w))
  | 0x46A1 => .ok (.ftintrzWS (fieldD w) (fieldJ w))
  | 0x46A2 => .ok (.ftintrzWD (fieldD w) (fieldJ w))
  | 0x46B1 => .ok (.ftintrneWS (fieldD w) (fieldJ w))
  | 0x46B2 => .ok (.ftintrneWD (fieldD w) (fieldJ w))
  | 0x46C1 => .ok (.ftintWS (fieldD w) (fieldJ w))
  | 0x46C2 => .ok (.ftintWD (fieldD w) (fieldJ w))
  | 0x4744 => .ok (.ffintSW (fieldD w) (fieldJ w))
  | 0x4748 => .ok (.ffintDW (fieldD w) (fieldJ w))
  | 0x1920A => constantBits (w.extractLsb' 0 10 = 0) .tlbsrch
  | 0x1920B => constantBits (w.extractLsb' 0 10 = 0) .tlbrd
  | 0x1920C => constantBits (w.extractLsb' 0 10 = 0) .tlbwr
  | 0x1920D => constantBits (w.extractLsb' 0 10 = 0) .tlbfill
  | 0x1920E => constantBits (w.extractLsb' 0 10 = 0) .ertn
  | _ => .undefinedOpcode

/-- Opcodes of 17 bits, `w[31:15]`: the 3R, 2RI5 and CODE15 formats (R94, R102). -/
def decodeOpcode17 (w : Word) : DecodeResult :=
  match (w.extractLsb' 15 17).toNat with
  | 0x20 => .ok (.addW (fieldD w) (fieldJ w) (fieldK w))
  | 0x22 => .ok (.subW (fieldD w) (fieldJ w) (fieldK w))
  | 0x24 => .ok (.slt (fieldD w) (fieldJ w) (fieldK w))
  | 0x25 => .ok (.sltu (fieldD w) (fieldJ w) (fieldK w))
  | 0x28 => .ok (.nor (fieldD w) (fieldJ w) (fieldK w))
  | 0x29 => .ok (.and (fieldD w) (fieldJ w) (fieldK w))
  | 0x2A => .ok (.or (fieldD w) (fieldJ w) (fieldK w))
  | 0x2B => .ok (.xor (fieldD w) (fieldJ w) (fieldK w))
  | 0x2E => .ok (.sllW (fieldD w) (fieldJ w) (fieldK w))
  | 0x2F => .ok (.srlW (fieldD w) (fieldJ w) (fieldK w))
  | 0x30 => .ok (.sraW (fieldD w) (fieldJ w) (fieldK w))
  | 0x38 => .ok (.mulW (fieldD w) (fieldJ w) (fieldK w))
  | 0x39 => .ok (.mulhW (fieldD w) (fieldJ w) (fieldK w))
  | 0x3A => .ok (.mulhWu (fieldD w) (fieldJ w) (fieldK w))
  | 0x40 => .ok (.divW (fieldD w) (fieldJ w) (fieldK w))
  | 0x41 => .ok (.modW (fieldD w) (fieldJ w) (fieldK w))
  | 0x42 => .ok (.divWu (fieldD w) (fieldJ w) (fieldK w))
  | 0x43 => .ok (.modWu (fieldD w) (fieldJ w) (fieldK w))
  | 0x54 => .ok (.brk (fieldCode w))
  | 0x56 => .ok (.syscall (fieldCode w))
  | 0x81 => .ok (.slliW (fieldD w) (fieldJ w) (fieldK w))
  | 0x89 => .ok (.srliW (fieldD w) (fieldJ w) (fieldK w))
  | 0x91 => .ok (.sraiW (fieldD w) (fieldJ w) (fieldK w))
  | 0x201 => .ok (.faddS (fieldD w) (fieldJ w) (fieldK w))
  | 0x202 => .ok (.faddD (fieldD w) (fieldJ w) (fieldK w))
  | 0x205 => .ok (.fsubS (fieldD w) (fieldJ w) (fieldK w))
  | 0x206 => .ok (.fsubD (fieldD w) (fieldJ w) (fieldK w))
  | 0x209 => .ok (.fmulS (fieldD w) (fieldJ w) (fieldK w))
  | 0x20A => .ok (.fmulD (fieldD w) (fieldJ w) (fieldK w))
  | 0x20D => .ok (.fdivS (fieldD w) (fieldJ w) (fieldK w))
  | 0x20E => .ok (.fdivD (fieldD w) (fieldJ w) (fieldK w))
  | 0x211 => .ok (.fmaxS (fieldD w) (fieldJ w) (fieldK w))
  | 0x212 => .ok (.fmaxD (fieldD w) (fieldJ w) (fieldK w))
  | 0x215 => .ok (.fminS (fieldD w) (fieldJ w) (fieldK w))
  | 0x216 => .ok (.fminD (fieldD w) (fieldJ w) (fieldK w))
  | 0x219 => .ok (.fmaxaS (fieldD w) (fieldJ w) (fieldK w))
  | 0x21A => .ok (.fmaxaD (fieldD w) (fieldJ w) (fieldK w))
  | 0x21D => .ok (.fminaS (fieldD w) (fieldJ w) (fieldK w))
  | 0x21E => .ok (.fminaD (fieldD w) (fieldJ w) (fieldK w))
  | 0x225 => .ok (.fcopysignS (fieldD w) (fieldJ w) (fieldK w))
  | 0x226 => .ok (.fcopysignD (fieldD w) (fieldJ w) (fieldK w))
  | 0xC91 => .ok (.idle (fieldCode w))
  | 0xC93 => .ok (.invtlb (fieldD w) (fieldJ w) (fieldK w))
  | 0x70E4 => .ok (.dbar (fieldCode w))
  | 0x70E5 => .ok (.ibar (fieldCode w))
  | _ => decodeOpcode22 w

/-- Opcodes of 12 bits, `w[31:20]`: the 4R, FCMP and FSEL formats (R95, R102). -/
def decodeOpcode12 (w : Word) : DecodeResult :=
  match (w.extractLsb' 20 12).toNat with
  | 0x81 => .ok (.fmaddS (fieldD w) (fieldJ w) (fieldK w) (fieldA w))
  | 0x82 => .ok (.fmaddD (fieldD w) (fieldJ w) (fieldK w) (fieldA w))
  | 0x85 => .ok (.fmsubS (fieldD w) (fieldJ w) (fieldK w) (fieldA w))
  | 0x86 => .ok (.fmsubD (fieldD w) (fieldJ w) (fieldK w) (fieldA w))
  | 0x89 => .ok (.fnmaddS (fieldD w) (fieldJ w) (fieldK w) (fieldA w))
  | 0x8A => .ok (.fnmaddD (fieldD w) (fieldJ w) (fieldK w) (fieldA w))
  | 0x8D => .ok (.fnmsubS (fieldD w) (fieldJ w) (fieldK w) (fieldA w))
  | 0x8E => .ok (.fnmsubD (fieldD w) (fieldJ w) (fieldK w) (fieldA w))
  | 0xC1 => constantBits (w.extractLsb' 3 2 = 0) (.fcmpS (fieldA w) (fieldCd w) (fieldJ w) (fieldK w))
  | 0xC2 => constantBits (w.extractLsb' 3 2 = 0) (.fcmpD (fieldA w) (fieldCd w) (fieldJ w) (fieldK w))
  | 0xD0 => constantBits (w.extractLsb' 18 2 = 0) (.fsel (fieldD w) (fieldJ w) (fieldK w) (fieldCa w))
  | _ => decodeOpcode17 w

/-- Opcodes of 10 bits, `w[31:22]`: the 2RI12 format (R97). -/
def decodeOpcode10 (w : Word) : DecodeResult :=
  match (w.extractLsb' 22 10).toNat with
  | 0x8 => .ok (.slti (fieldD w) (fieldJ w) (fieldI12 w))
  | 0x9 => .ok (.sltui (fieldD w) (fieldJ w) (fieldI12 w))
  | 0xA => .ok (.addiW (fieldD w) (fieldJ w) (fieldI12 w))
  | 0xD => if w = 0x03400000#32 then .ok .nop else .ok (.andi (fieldD w) (fieldJ w) (fieldI12 w))
  | 0xE => .ok (.ori (fieldD w) (fieldJ w) (fieldI12 w))
  | 0xF => .ok (.xori (fieldD w) (fieldJ w) (fieldI12 w))
  | 0x18 => .ok (.cacop (fieldD w) (fieldJ w) (fieldI12 w))
  | 0xA0 => .ok (.ldB (fieldD w) (fieldJ w) (fieldI12 w))
  | 0xA1 => .ok (.ldH (fieldD w) (fieldJ w) (fieldI12 w))
  | 0xA2 => .ok (.ldW (fieldD w) (fieldJ w) (fieldI12 w))
  | 0xA4 => .ok (.stB (fieldD w) (fieldJ w) (fieldI12 w))
  | 0xA5 => .ok (.stH (fieldD w) (fieldJ w) (fieldI12 w))
  | 0xA6 => .ok (.stW (fieldD w) (fieldJ w) (fieldI12 w))
  | 0xA8 => .ok (.ldBu (fieldD w) (fieldJ w) (fieldI12 w))
  | 0xA9 => .ok (.ldHu (fieldD w) (fieldJ w) (fieldI12 w))
  | 0xAB => .ok (.preld (fieldD w) (fieldJ w) (fieldI12 w))
  | 0xAC => .ok (.fldS (fieldD w) (fieldJ w) (fieldI12 w))
  | 0xAD => .ok (.fstS (fieldD w) (fieldJ w) (fieldI12 w))
  | 0xAE => .ok (.fldD (fieldD w) (fieldJ w) (fieldI12 w))
  | 0xAF => .ok (.fstD (fieldD w) (fieldJ w) (fieldI12 w))
  | _ => decodeOpcode12 w

/-- Opcodes of 8 bits, `w[31:24]`: the 2RI14 format (R98). -/
def decodeOpcode8 (w : Word) : DecodeResult :=
  match (w.extractLsb' 24 8).toNat with
  | 0x4 => if fieldJ w = 0 then .ok (.csrrd (fieldD w) (fieldI14 w))
    else if fieldJ w = 1 then .ok (.csrwr (fieldD w) (fieldI14 w))
    else .ok (.csrxchg (fieldD w) (fieldJ w) (fieldI14 w))
  | 0x20 => .ok (.llW (fieldD w) (fieldJ w) (fieldI14 w))
  | 0x21 => .ok (.scW (fieldD w) (fieldJ w) (fieldI14 w))
  | _ => decodeOpcode10 w

/-- Opcodes of 7 bits, `w[31:25]`: the 1RI20 format (R102). -/
def decodeOpcode7 (w : Word) : DecodeResult :=
  match (w.extractLsb' 25 7).toNat with
  | 0xA => .ok (.lu12iW (fieldD w) (fieldI20 w))
  | 0xE => .ok (.pcaddu12i (fieldD w) (fieldI20 w))
  | _ => decodeOpcode8 w

/-- Opcodes of 6 bits, `w[31:26]`: the 2RI16, 1RI21 and I26 formats (R99 to R101). -/
def decodeOpcode6 (w : Word) : DecodeResult :=
  match (w.extractLsb' 26 6).toNat with
  | 0x12 => if w.extractLsb' 8 2 = 0 then .ok (.bceqz (fieldCj w) (fieldOffs21 w))
    else if w.extractLsb' 8 2 = 1 then .ok (.bcnez (fieldCj w) (fieldOffs21 w))
    else .undefinedOpcode
  | 0x13 => .ok (.jirl (fieldD w) (fieldJ w) (fieldOffs16 w))
  | 0x14 => .ok (.b (fieldOffs26 w))
  | 0x15 => .ok (.bl (fieldOffs26 w))
  | 0x16 => .ok (.beq (fieldJ w) (fieldD w) (fieldOffs16 w))
  | 0x17 => .ok (.bne (fieldJ w) (fieldD w) (fieldOffs16 w))
  | 0x18 => .ok (.blt (fieldJ w) (fieldD w) (fieldOffs16 w))
  | 0x19 => .ok (.bge (fieldJ w) (fieldD w) (fieldOffs16 w))
  | 0x1A => .ok (.bltu (fieldJ w) (fieldD w) (fieldOffs16 w))
  | 0x1B => .ok (.bgeu (fieldJ w) (fieldD w) (fieldOffs16 w))
  | _ => decodeOpcode7 w

/-- The instruction a word is (30_encoding.md R104 to R107). -/
def decode (w : Word) : DecodeResult := decodeOpcode6 w

/-- The word at four bytes, the first at the lowest address (20_memory.md R62). -/
def wordOfBytes (b0 b1 b2 b3 : Byte) : Word := (b3 ++ b2 ++ b1 ++ b0 : BitVec (8 + 8 + 8 + 8))

/-- Decoding from bytes in memory order: one instruction and the bytes after it, or `none` where fewer than four bytes are
left. Every instruction is four bytes (30_encoding.md R90). -/
def decodeBytes : List Byte → Option (DecodeResult × List Byte)
  | b0 :: b1 :: b2 :: b3 :: rest => some (decode (wordOfBytes b0 b1 b2 b3), rest)
  | _ => none

/-- The bytes of a word in memory order (20_memory.md R62). -/
def bytesOfWord (w : Word) : List Byte :=
  [w.extractLsb' 0 8, w.extractLsb' 8 8, w.extractLsb' 16 8, w.extractLsb' 24 8]

/-- The instruction the decoder reads from the low `nbits` bits of `w`, the bits above them 0, laid out as the hardware
stores them. -/
def decodeTableWord (nbits w : Nat) : Option Instr :=
  match decodeBytes (bytesOfWord (BitVec.ofNat 32 (w % 2 ^ nbits))) with
  | some (.ok i, _) => some i
  | _ => none

/-! ### The encoder: one function for each format -/

/-- Format 2R (R93). -/
def enc2R (op : BitVec 22) (j d : BitVec 5) : Word := (op ++ j ++ d : BitVec (22 + 5 + 5))
/-- Format 3R, also 2RI5 (R94, R102). -/
def enc3R (op : BitVec 17) (k j d : BitVec 5) : Word := (op ++ k ++ j ++ d : BitVec (17 + 5 + 5 + 5))
/-- Format 4R, also FCMP and FSEL with their constant bits (R95, R102). -/
def enc4R (op : BitVec 12) (a k j d : BitVec 5) : Word := (op ++ a ++ k ++ j ++ d : BitVec (12 + 5 + 5 + 5 + 5))
/-- Format 2RI12 (R97). -/
def enc2RI12 (op : BitVec 10) (i : BitVec 12) (j d : BitVec 5) : Word := (op ++ i ++ j ++ d : BitVec (10 + 12 + 5 + 5))
/-- Format 2RI14 (R98). -/
def enc2RI14 (op : BitVec 8) (i : BitVec 14) (j d : BitVec 5) : Word := (op ++ i ++ j ++ d : BitVec (8 + 14 + 5 + 5))
/-- Format 2RI16, also 1RI21 and I26 with the parts of their offset (R99 to R101). -/
def enc2RI16 (op : BitVec 6) (i : BitVec 16) (j d : BitVec 5) : Word := (op ++ i ++ j ++ d : BitVec (6 + 16 + 5 + 5))
/-- Format 1RI20 (R102). -/
def enc1RI20 (op : BitVec 7) (i : BitVec 20) (d : BitVec 5) : Word := (op ++ i ++ d : BitVec (7 + 20 + 5))
/-- Format CODE15 (R102). -/
def encCode15 (op : BitVec 17) (code : BitVec 15) : Word := (op ++ code : BitVec (17 + 15))
/-- A condition-flag number in a 5-bit slot, under the two given bits (R91). -/
def flagSlot (top : BitVec 2) (c : CfNo) : BitVec 5 := (top ++ c : BitVec (2 + 3))

/-- The word of an instruction (30_encoding.md R104). -/
def encode : Instr → Word
  | .rdcntid rj => enc2R 0x18#22 rj 0
  | .rdcntvlW rd => enc2R 0x18#22 0 rd
  | .rdcntvhW rd => enc2R 0x19#22 0 rd
  | .addW rd rj rk => enc3R 0x20#17 rk rj rd
  | .subW rd rj rk => enc3R 0x22#17 rk rj rd
  | .slt rd rj rk => enc3R 0x24#17 rk rj rd
  | .sltu rd rj rk => enc3R 0x25#17 rk rj rd
  | .nor rd rj rk => enc3R 0x28#17 rk rj rd
  | .and rd rj rk => enc3R 0x29#17 rk rj rd
  | .or rd rj rk => enc3R 0x2A#17 rk rj rd
  | .xor rd rj rk => enc3R 0x2B#17 rk rj rd
  | .sllW rd rj rk => enc3R 0x2E#17 rk rj rd
  | .srlW rd rj rk => enc3R 0x2F#17 rk rj rd
  | .sraW rd rj rk => enc3R 0x30#17 rk rj rd
  | .mulW rd rj rk => enc3R 0x38#17 rk rj rd
  | .mulhW rd rj rk => enc3R 0x39#17 rk rj rd
  | .mulhWu rd rj rk => enc3R 0x3A#17 rk rj rd
  | .divW rd rj rk => enc3R 0x40#17 rk rj rd
  | .modW rd rj rk => enc3R 0x41#17 rk rj rd
  | .divWu rd rj rk => enc3R 0x42#17 rk rj rd
  | .modWu rd rj rk => enc3R 0x43#17 rk rj rd
  | .brk code => encCode15 0x54#17 code
  | .syscall code => encCode15 0x56#17 code
  | .slliW rd rj ui5 => enc3R 0x81#17 ui5 rj rd
  | .srliW rd rj ui5 => enc3R 0x89#17 ui5 rj rd
  | .sraiW rd rj ui5 => enc3R 0x91#17 ui5 rj rd
  | .faddS fd fj fk => enc3R 0x201#17 fk fj fd
  | .faddD fd fj fk => enc3R 0x202#17 fk fj fd
  | .fsubS fd fj fk => enc3R 0x205#17 fk fj fd
  | .fsubD fd fj fk => enc3R 0x206#17 fk fj fd
  | .fmulS fd fj fk => enc3R 0x209#17 fk fj fd
  | .fmulD fd fj fk => enc3R 0x20A#17 fk fj fd
  | .fdivS fd fj fk => enc3R 0x20D#17 fk fj fd
  | .fdivD fd fj fk => enc3R 0x20E#17 fk fj fd
  | .fmaxS fd fj fk => enc3R 0x211#17 fk fj fd
  | .fmaxD fd fj fk => enc3R 0x212#17 fk fj fd
  | .fminS fd fj fk => enc3R 0x215#17 fk fj fd
  | .fminD fd fj fk => enc3R 0x216#17 fk fj fd
  | .fmaxaS fd fj fk => enc3R 0x219#17 fk fj fd
  | .fmaxaD fd fj fk => enc3R 0x21A#17 fk fj fd
  | .fminaS fd fj fk => enc3R 0x21D#17 fk fj fd
  | .fminaD fd fj fk => enc3R 0x21E#17 fk fj fd
  | .fcopysignS fd fj fk => enc3R 0x225#17 fk fj fd
  | .fcopysignD fd fj fk => enc3R 0x226#17 fk fj fd
  | .fabsS fd fj => enc2R 0x4501#22 fj fd
  | .fabsD fd fj => enc2R 0x4502#22 fj fd
  | .fnegS fd fj => enc2R 0x4505#22 fj fd
  | .fnegD fd fj => enc2R 0x4506#22 fj fd
  | .fclassS fd fj => enc2R 0x450D#22 fj fd
  | .fclassD fd fj => enc2R 0x450E#22 fj fd
  | .fsqrtS fd fj => enc2R 0x4511#22 fj fd
  | .fsqrtD fd fj => enc2R 0x4512#22 fj fd
  | .frecipS fd fj => enc2R 0x4515#22 fj fd
  | .frecipD fd fj => enc2R 0x4516#22 fj fd
  | .frsqrtS fd fj => enc2R 0x4519#22 fj fd
  | .frsqrtD fd fj => enc2R 0x451A#22 fj fd
  | .fmovS fd fj => enc2R 0x4525#22 fj fd
  | .fmovD fd fj => enc2R 0x4526#22 fj fd
  | .movgr2frW fd rj => enc2R 0x4529#22 rj fd
  | .movgr2frhW fd rj => enc2R 0x452B#22 rj fd
  | .movfr2grS rd fj => enc2R 0x452D#22 fj rd
  | .movfrh2grS rd fj => enc2R 0x452F#22 fj rd
  | .movgr2fcsr fcsr rj => enc2R 0x4530#22 rj fcsr
  | .movfcsr2gr rd fcsr => enc2R 0x4532#22 fcsr rd
  | .movfr2cf cd fj => enc2R 0x4534#22 fj (flagSlot 0 cd)
  | .movcf2fr fd cj => enc2R 0x4535#22 (flagSlot 0 cj) fd
  | .movgr2cf cd rj => enc2R 0x4536#22 rj (flagSlot 0 cd)
  | .movcf2gr rd cj => enc2R 0x4537#22 (flagSlot 0 cj) rd
  | .fcvtSD fd fj => enc2R 0x4646#22 fj fd
  | .fcvtDS fd fj => enc2R 0x4649#22 fj fd
  | .ftintrmWS fd fj => enc2R 0x4681#22 fj fd
  | .ftintrmWD fd fj => enc2R 0x4682#22 fj fd
  | .ftintrpWS fd fj => enc2R 0x4691#22 fj fd
  | .ftintrpWD fd fj => enc2R 0x4692#22 fj fd
  | .ftintrzWS fd fj => enc2R 0x46A1#22 fj fd
  | .ftintrzWD fd fj => enc2R 0x46A2#22 fj fd
  | .ftintrneWS fd fj => enc2R 0x46B1#22 fj fd
  | .ftintrneWD fd fj => enc2R 0x46B2#22 fj fd
  | .ftintWS fd fj => enc2R 0x46C1#22 fj fd
  | .ftintWD fd fj => enc2R 0x46C2#22 fj fd
  | .ffintSW fd fj => enc2R 0x4744#22 fj fd
  | .ffintDW fd fj => enc2R 0x4748#22 fj fd
  | .slti rd rj si12 => enc2RI12 0x8#10 si12 rj rd
  | .sltui rd rj si12 => enc2RI12 0x9#10 si12 rj rd
  | .addiW rd rj si12 => enc2RI12 0xA#10 si12 rj rd
  | .andi rd rj ui12 => enc2RI12 0xD#10 ui12 rj rd
  | .ori rd rj ui12 => enc2RI12 0xE#10 ui12 rj rd
  | .xori rd rj ui12 => enc2RI12 0xF#10 ui12 rj rd
  | .csrrd rd csr => enc2RI14 0x4#8 csr 0 rd
  | .csrwr rd csr => enc2RI14 0x4#8 csr 1 rd
  | .csrxchg rd rj csr => enc2RI14 0x4#8 csr rj rd
  | .cacop code rj si12 => enc2RI12 0x18#10 si12 rj code
  | .tlbsrch => enc2R 0x1920A#22 0 0
  | .tlbrd => enc2R 0x1920B#22 0 0
  | .tlbwr => enc2R 0x1920C#22 0 0
  | .tlbfill => enc2R 0x1920D#22 0 0
  | .ertn => enc2R 0x1920E#22 0 0
  | .idle level => encCode15 0xC91#17 level
  | .invtlb op rj rk => enc3R 0xC93#17 rk rj op
  | .fmaddS fd fj fk fa => enc4R 0x81#12 fa fk fj fd
  | .fmaddD fd fj fk fa => enc4R 0x82#12 fa fk fj fd
  | .fmsubS fd fj fk fa => enc4R 0x85#12 fa fk fj fd
  | .fmsubD fd fj fk fa => enc4R 0x86#12 fa fk fj fd
  | .fnmaddS fd fj fk fa => enc4R 0x89#12 fa fk fj fd
  | .fnmaddD fd fj fk fa => enc4R 0x8A#12 fa fk fj fd
  | .fnmsubS fd fj fk fa => enc4R 0x8D#12 fa fk fj fd
  | .fnmsubD fd fj fk fa => enc4R 0x8E#12 fa fk fj fd
  | .fcmpS cond cd fj fk => enc4R 0xC1#12 cond fk fj (flagSlot 0 cd)
  | .fcmpD cond cd fj fk => enc4R 0xC2#12 cond fk fj (flagSlot 0 cd)
  | .fsel fd fj fk ca => enc4R 0xD0#12 (flagSlot 0 ca) fk fj fd
  | .lu12iW rd si20 => enc1RI20 0xA#7 si20 rd
  | .pcaddu12i rd si20 => enc1RI20 0xE#7 si20 rd
  | .llW rd rj si14 => enc2RI14 0x20#8 si14 rj rd
  | .scW rd rj si14 => enc2RI14 0x21#8 si14 rj rd
  | .ldB rd rj si12 => enc2RI12 0xA0#10 si12 rj rd
  | .ldH rd rj si12 => enc2RI12 0xA1#10 si12 rj rd
  | .ldW rd rj si12 => enc2RI12 0xA2#10 si12 rj rd
  | .stB rd rj si12 => enc2RI12 0xA4#10 si12 rj rd
  | .stH rd rj si12 => enc2RI12 0xA5#10 si12 rj rd
  | .stW rd rj si12 => enc2RI12 0xA6#10 si12 rj rd
  | .ldBu rd rj si12 => enc2RI12 0xA8#10 si12 rj rd
  | .ldHu rd rj si12 => enc2RI12 0xA9#10 si12 rj rd
  | .preld hint rj si12 => enc2RI12 0xAB#10 si12 rj hint
  | .fldS fd rj si12 => enc2RI12 0xAC#10 si12 rj fd
  | .fstS fd rj si12 => enc2RI12 0xAD#10 si12 rj fd
  | .fldD fd rj si12 => enc2RI12 0xAE#10 si12 rj fd
  | .fstD fd rj si12 => enc2RI12 0xAF#10 si12 rj fd
  | .dbar hint => encCode15 0x70E4#17 hint
  | .ibar hint => encCode15 0x70E5#17 hint
  | .bceqz cj offs21 => enc2RI16 0x12#6 (offs21.extractLsb' 0 16) (flagSlot 0 cj) (offs21.extractLsb' 16 5)
  | .bcnez cj offs21 => enc2RI16 0x12#6 (offs21.extractLsb' 0 16) (flagSlot 1 cj) (offs21.extractLsb' 16 5)
  | .jirl rd rj offs16 => enc2RI16 0x13#6 offs16 rj rd
  | .b offs26 => enc2RI16 0x14#6 (offs26.extractLsb' 0 16) (offs26.extractLsb' 21 5) (offs26.extractLsb' 16 5)
  | .bl offs26 => enc2RI16 0x15#6 (offs26.extractLsb' 0 16) (offs26.extractLsb' 21 5) (offs26.extractLsb' 16 5)
  | .beq rj rd offs16 => enc2RI16 0x16#6 offs16 rj rd
  | .bne rj rd offs16 => enc2RI16 0x17#6 offs16 rj rd
  | .blt rj rd offs16 => enc2RI16 0x18#6 offs16 rj rd
  | .bge rj rd offs16 => enc2RI16 0x19#6 offs16 rj rd
  | .bltu rj rd offs16 => enc2RI16 0x1A#6 offs16 rj rd
  | .bgeu rj rd offs16 => enc2RI16 0x1B#6 offs16 rj rd
  | .nop => enc2RI12 0xD#10 0 0 0

end Sys2Proof
end

