-- ==== Sys2Proof/Config.lean ====
section
/-! DEFINITION. What the spec leaves to the environment: the named parameters of 00_scope.md R6 and the free values
(00_scope.md R11 `any_N()`, 47_fp_arith.md R236 FP_NUMERICS). A free value is an opaque constant: no proof can see
what it is, so a statement holds whatever it is. -/

namespace Sys2Proof

/-- The two floating-point formats of the ISA, `.S` and `.D` (10_state.md R31). -/
inductive FpFormat where
  | single
  | double
deriving DecidableEq, Repr

/-- The operations of FP_NUMERICS whose result can be a NaN (47_fp_arith.md R234, R236). They tell apart the free NaN
choices of different operations (R237: the sign of a NaN from FNMADD or FNMSUB is free too). -/
inductive FpOp where
  | addition | subtraction | multiplication | division
  | fmadd | fmsub | fnmadd | fnmsub
  | maxNum | minNum | maxNumMag | minNumMag
  | squareRoot | recip | rsqrt
  | convertFormat
deriving DecidableEq, Repr

/-- RESET_PC (10_state.md R49). PRESUMED 0x1C000000 (93_implementation_defined.md G5), log 4. Unsafe: the spec leaves it
a parameter. Only `State.reset` uses it. -/
def Config.resetPc : Word := 0x1C000000#32

/-- COUNTER_ID, the value RDCNTID reads, constant over a run (10_state.md R47). Free, log 8: safe. -/
opaque Config.counterId : Word

/-- The draw `any_32()` number `n` (00_scope.md R11). Free, log 2: safe. -/
opaque Config.draw : Nat → Word

/-- Whether the environment clears LLbit at the boundary numbered `n` (45_atomic_barrier.md R192). Free, log 3: safe. -/
opaque Config.linkLost : Nat → Bool

/-- The sign of the quiet NaN an operation gives (47_fp_arith.md R234), by RM, if the operation reads it, and the operands. Free,
log 10: safe. -/
opaque Config.nanSign : FpOp → FpFormat → BitVec 2 → DWord → DWord → DWord → BitVec 1

/-- The fraction bits below the quiet bit of a binary32 NaN result (47_fp_arith.md R234). Free, log 10: safe. -/
opaque Config.nanPayloadS : FpOp → BitVec 2 → DWord → DWord → DWord → BitVec 22

/-- The fraction bits below the quiet bit of a binary64 NaN result (47_fp_arith.md R234). Free, log 10: safe. -/
opaque Config.nanPayloadD : FpOp → BitVec 2 → DWord → DWord → DWord → BitVec 51

/-- Whether tininess is detected before rounding rather than after (47_fp_arith.md R232). Free, log 11: safe. -/
opaque Config.tinyBeforeRounding : Bool

/-- Whether a fused multiply-add of 0 and infinity with a quiet NaN addend raises V (47_fp_arith.md R236). Free,
log 12: safe. -/
opaque Config.zeroTimesInfPlusNanRaisesV : FpOp → FpFormat → DWord → DWord → DWord → Bool

/-- Which of two operands that compare equal maxNum, minNum, maxNumMag or minNumMag gives (47_fp_arith.md R236): the
first or the second. Free, log 13: safe. -/
opaque Config.equalGivesFirst : FpOp → FpFormat → DWord → DWord → Bool

/-- FP_NUMERICS.ftint_invalid, the result of an invalid conversion to integer (48_fp_cmp_cvt.md R299). Free, log 14:
safe. -/
opaque Config.ftintInvalid : FpFormat → DWord → Word

end Sys2Proof
end

