-- ==== Sys2Proof/Machine/State.lean ====
section
/-! DEFINITION. The state of the machine (10_state.md R50), the faults (60_exceptions.md R361), the refusals (00_scope.md
R14) and the launch state (10_state.md R49, 70_reset_and_hazards.md R400). -/

namespace Sys2Proof.Machine

/-- The privilege level CSR.CRMD.PLV: 0 for the operating system, 3 for user programs (10_state.md R29). -/
inductive Plv where
  | plv0
  | plv3
deriving DecidableEq, Repr

/-- The memory access types: Coherent Cached and Strongly-Ordered Uncached (20_memory.md R70, R71). No result depends on
them. -/
inductive MemType where
  | cc
  | suc
deriving DecidableEq, Repr

/-- A range of MEM_MAP: the addresses `base .. base + size - 1`, of one access type (20_memory.md R61). -/
structure Region where
  base : Nat
  size : Nat
  mat : MemType
deriving DecidableEq, Repr

/-- A floating-point register, 64 bits (10_state.md R30), as its two halves: bits 63:32 and bits 31:0, which the `.S`
instructions write apart (R33). -/
structure Fpr where
  hi : Word
  lo : Word
deriving DecidableEq, Repr

/-- The bytes of memory that differ from what an unlisted address reads as, by rising address (20_memory.md R60). -/
abbrev Memory := List Host.Cell

/-- What an address that is not listed reads as. DESIGN CHOICE, log 7: unsafe. -/
def Memory.unlisted : Byte := 0

/-- The architectural state (10_state.md R50), the parameter MEM_MAP and the counter of the draws. -/
structure State where
  /-- r0 to r31 (R20). The cell of r0 is 0 and never written (R21, log 26). -/
  x : Vector Word 32
  /-- The address of the instruction to fetch (R24). -/
  pc : Word
  /-- CSR.CRMD.PLV (R29), constant over a run. -/
  plv : Plv
  /-- f0 to f31 (R30). -/
  f : Vector Fpr 32
  /-- fcc0 to fcc7 (R34). -/
  fcc : Vector Bool 8
  /-- FCSR0 (R37). Its reserved bits are 0. -/
  fcsr0 : Word
  /-- LLbit (R45). -/
  llbit : Bool
  /-- The contents of memory (20_memory.md R60). -/
  mem : Memory
  /-- MEM_MAP, constant over a run (20_memory.md R61). -/
  memMap : List Region
  /-- The addresses stored to since the last IBAR, rising (20_memory.md R77). -/
  dirty : List Nat
  /-- How many free values have been taken so far: the number of the next draw (log 2). The model's own. -/
  draws : Nat
deriving DecidableEq, Repr

/-- A trap (60_exceptions.md R361, R362). It is terminal: the source does not describe trap entry (R374). Each carries its
information and the trapped state: the state before the instruction, with Cause written for FPE (R369, R375). All are safe:
the spec ends the run here (log 1). -/
inductive Fault where
  /-- Raised by SYSCALL, with its code (R363). Safe. -/
  | sys (code : BitVec 15) (s : State)
  /-- Raised by BREAK, with its code (R364). Safe. -/
  | brk (code : BitVec 15) (s : State)
  /-- Raised by the decode of an undefined opcode, with the word (R365). Safe. -/
  | ine (w : Word) (s : State)
  /-- Raised by a privileged instruction at PLV3, with the word (R366). Safe. -/
  | ipe (w : Word) (s : State)
  /-- Raised by the fetch at a misaligned pc, with the pc (R367). Safe. -/
  | adef (pc : Word) (s : State)
  /-- Raised by a misaligned load or store, with the address (R368). Safe. -/
  | ale (vaddr : Word) (s : State)
  /-- Raised by a floating-point instruction when an enabled exception occurs, with the set that occurred (R369). Safe. -/
  | fpe (exc : FpExc) (s : State)
deriving DecidableEq, Repr

/-- Why the model gives no meaning (00_scope.md R14 `Refuse(reason)`). -/
inductive Refusal where
  /-- An instruction without a meaning yet. No arm of `exec` answers it. Safe. -/
  | notModelled (mnemonic : String)
  /-- By a fetch, load or store at the address `a` that touches a byte outside MEM_MAP (20_memory.md R61). Safe. -/
  | unmapped (a : Word)
  /-- By a fetch at `pc` of a byte stored since the last IBAR (20_memory.md R77). Safe. -/
  | staleFetch (pc : Word)
  /-- By a word whose constant operand bits no row admits (30_encoding.md R106). Safe. -/
  | reservedField (w : Word)
  /-- By FCMP with an unlisted condition (48_fp_cmp_cvt.md R294). Safe. -/
  | fcmpCond (cond : BitVec 5)
  /-- By MOVGR2FCSR and MOVFCSR2GR with an index above 3 (49_fp_move_branch_mem.md R332). Safe. -/
  | fcsrIndex (index : BitVec 5)
  /-- By the instruction words whose semantics are not in the source: CACOP, and at PLV0 the ten privileged instructions
  (46_system_privileged.md R207). Safe. -/
  | noSemantics (w : Word)
deriving DecidableEq, Repr

/-- The whole address space, of type CC: the MEM_MAP of `State.reset` (DESIGN CHOICE, log 6: unsafe). -/
def fullMemMap : List Region := [{ base := 0, size := 2 ^ 32, mat := .cc }]

/-- The launch state (10_state.md R49, 70_reset_and_hazards.md R400). The spec fixes x[0], the reserved bits of fcsr0 and the
empty `dirty`; `pc` and `plv` are PRESUMED (log 4); the rest is DESIGN CHOICE 0 (logs 2, 5, 6, 7). -/
def State.reset : State where
  x := Vector.replicate 32 0
  pc := Config.resetPc
  plv := .plv0
  f := Vector.replicate 32 { hi := 0, lo := 0 }
  fcc := Vector.replicate 8 false
  fcsr0 := 0
  llbit := false
  mem := []
  memMap := fullMemMap
  dirty := []
  draws := 0

end Sys2Proof.Machine
end

