-- ==== Sys2Proof/Machine/Ops.lean ====
section
/-! DEFINITION. The named operations over registers, memory and traps (10_state.md, 20_memory.md, 60_exceptions.md). Every
meaning is written over them. -/

namespace Sys2Proof.Machine

/-- What an instruction or a step answers (00_scope.md R14). -/
abbrev Out := Host.Outcome State Fault Refusal

/-! ### Traps, the pc, the draws -/

/-- Raising an exception (60_exceptions.md R362): the outcome is the trap, with the state as it stands. -/
def raise (trap : State → Fault) (s : State) : Out := .fault (trap s)

/-- `pc <- pc + 4` modulo 2^32 (10_state.md R26). -/
def advance (s : State) : State := { s with pc := s.pc + 4 }

/-- `pc <- target`. -/
def jump (target : Word) (s : State) : State := { s with pc := target }

/-- The next `any_32()` (00_scope.md R11). -/
def draw (s : State) : Word := Config.draw s.draws

/-- The state after a draw. -/
def drawn (s : State) : State := { s with draws := s.draws + 1 }

/-- What the environment may do at an instruction boundary: clear LLbit, and never set it (45_atomic_barrier.md R192). While
LLbit is 0 there is nothing to clear and no draw is taken. -/
def boundary (s : State) : State :=
  if s.llbit then { s with llbit := !Config.linkLost s.draws, draws := s.draws + 1 } else s

/-! ### Registers -/

/-- `x[r]`; r0 reads as 0 (10_state.md R21). -/
def readGpr (r : RegNo) (s : State) : Word := if r = 0 then 0 else s.x[r.toNat]'r.isLt

/-- `x[r] <- v`; a write to r0 is discarded (10_state.md R21). -/
def writeGpr (r : RegNo) (v : Word) (s : State) : State :=
  if r = 0 then s else { s with x := s.x.set r.toNat v r.isLt }

/-- The halves of `f[r]` (10_state.md R30). -/
def fprOf (r : FprNo) (s : State) : Fpr := s.f[r.toNat]'r.isLt

/-- Replacing the halves of `f[r]`. -/
def setFpr (r : FprNo) (v : Fpr) (s : State) : State := { s with f := s.f.set r.toNat v r.isLt }

/-- `f[r][31:0]`. -/
def readFprLow (r : FprNo) (s : State) : Word := (fprOf r s).lo

/-- `f[r][63:32]`. -/
def readFprHigh (r : FprNo) (s : State) : Word := (fprOf r s).hi

/-- `f[r]`, all 64 bits (10_state.md R30). -/
def readFpr (r : FprNo) (s : State) : DWord := (readFprHigh r s ++ readFprLow r s : BitVec (32 + 32))

/-- `f[r] <- v`, all 64 bits. -/
def writeFpr (r : FprNo) (v : DWord) (s : State) : State :=
  setFpr r { hi := v.extractLsb' 32 32, lo := v.extractLsb' 0 32 } s

/-- `f[r][31:0] <- v`; bits 63:32 become `any_32()` (10_state.md R33). -/
def writeFprLow (r : FprNo) (v : Word) (s : State) : State := drawn (setFpr r { hi := draw s, lo := v } s)

/-- `f[r][63:32] <- v`; bits 31:0 are kept (10_state.md R33, 49_fp_move_branch_mem.md R325). -/
def writeFprHigh (r : FprNo) (v : Word) (s : State) : State := setFpr r { hi := v, lo := readFprLow r s } s

/-- `fcc[c]` (10_state.md R34). -/
def readFcc (c : CfNo) (s : State) : Bool := s.fcc[c.toNat]'c.isLt

/-- `fcc[c] <- b`. -/
def writeFcc (c : CfNo) (b : Bool) (s : State) : State := { s with fcc := s.fcc.set c.toNat b c.isLt }

/-! ### Memory -/

/-- The byte at an address. -/
def Memory.readByte : Memory → Nat → Byte
  | [], _ => Memory.unlisted
  | (a, v) :: rest, b => if a = b then v else Memory.readByte rest b

/-- Without the entries at an address. -/
def Memory.erase (m : Memory) (a : Nat) : Memory := m.filter (fun cell => cell.1 != a)

/-- With one entry put before the first entry of a greater address. -/
def Memory.insert : Memory → Nat → Byte → Memory
  | [], a, v => [(a, v)]
  | (b, w) :: rest, a, v => if a < b then (a, v) :: (b, w) :: rest else (b, w) :: Memory.insert rest a v

/-- Writing the byte at an address. Writing what an unlisted address reads as removes the entry. -/
def Memory.writeByte (m : Memory) (a : Nat) (v : Byte) : Memory :=
  if v = Memory.unlisted then m.erase a else (m.erase a).insert a v

/-- The canonical form: addresses below 2^32, strictly rising, and no entry equal to what an unlisted address reads as. -/
abbrev Memory.wf (m : Memory) : Prop :=
  (m.map Prod.fst).Pairwise (· < ·) ∧ ∀ cell ∈ m, cell.1 < 2 ^ 32 ∧ cell.2 ≠ Memory.unlisted

/-- The byte of memory at an address. -/
def byteAt (a : Word) (s : State) : Byte := s.mem.readByte a.toNat

/-- `MemRead(a, n)`, little-endian, addresses modulo 2^32 (20_memory.md R62). -/
def memRead : Nat → Word → State → Nat
  | 0, _, _ => 0
  | n + 1, a, s => (byteAt a s).toNat + 256 * memRead n (a + 1) s

/-- The bytes of `MemWrite(a, n, v)`, little-endian, addresses modulo 2^32 (20_memory.md R62). -/
def Memory.write : Nat → Word → Nat → Memory → Memory
  | 0, _, _, m => m
  | n + 1, a, v, m => Memory.write n (a + 1) (v / 256) (m.writeByte a.toNat (BitVec.ofNat 8 v))

/-- A set of addresses, rising, with one more. -/
def insertAddress : List Nat → Nat → List Nat
  | [], a => [a]
  | b :: rest, a => if a < b then a :: b :: rest else if a = b then b :: rest else b :: insertAddress rest a

/-- `dirty` with the bytes `a .. a + n - 1` added (20_memory.md R77). -/
def markDirty : Nat → Word → List Nat → List Nat
  | 0, _, d => d
  | n + 1, a, d => markDirty n (a + 1) (insertAddress d a.toNat)

/-- `MemWrite(a, n, v)` by a store: the bytes join `dirty` (20_memory.md R62, R77). -/
def memWrite (n : Nat) (a : Word) (v : Nat) (s : State) : State :=
  { s with mem := s.mem.write n a v, dirty := markDirty n a s.dirty }

/-- Whether the region covers the address. -/
def Region.covers (r : Region) (a : Word) : Bool := decide (r.base ≤ a.toNat ∧ a.toNat < r.base + r.size)

/-- Whether the address is in MEM_MAP (20_memory.md R61). -/
def mapped (a : Word) (s : State) : Bool := s.memMap.any (·.covers a)

/-- Whether the bytes `a .. a + n - 1` are all in MEM_MAP. -/
def mappedRange : Nat → Word → State → Bool
  | 0, _, _ => true
  | n + 1, a, s => mapped a s && mappedRange n (a + 1) s

/-- Whether one of the bytes `a .. a + n - 1` is in `dirty`. -/
def dirtyRange : Nat → Word → State → Bool
  | 0, _, _ => false
  | n + 1, a, s => s.dirty.contains a.toNat || dirtyRange n (a + 1) s

/-- The access type of the first region that covers the address (20_memory.md R70, R71). No result depends on it. -/
def memTypeOf (a : Word) (s : State) : Option MemType := (s.memMap.find? (·.covers a)).map Region.mat

/-- The first steps of every load and store of `n` bytes (20_memory.md R80): ALE if misaligned, then the refusal if a byte is
outside MEM_MAP, then the access. -/
def guardAccess (n : Nat) (vaddr : Word) (s : State) (access : Out) : Out :=
  if vaddr.toNat % n ≠ 0 then raise (.ale vaddr) s
  else if mappedRange n vaddr s then access
  else .refused (.unmapped vaddr)

/-- A load of `n` bytes into what `write` says (20_memory.md R80). -/
def loadAccess (n : Nat) (vaddr : Word) (write : Nat → State → State) (s : State) : Out :=
  guardAccess n vaddr s (.next (advance (write (memRead n vaddr s) s)))

/-- A store of the low `n` bytes of `v` (20_memory.md R80). -/
def storeAccess (n : Nat) (vaddr : Word) (v : Nat) (s : State) : Out :=
  guardAccess n vaddr s (.next (advance (memWrite n vaddr v s)))

/-! ### Privilege -/

/-- The ten privileged instructions (46_system_privileged.md R207, 60_exceptions.md R372): IPE with the instruction word at
PLV3, refused at PLV0. -/
def privilegedOnly (i : Instr) (s : State) : Out :=
  match s.plv with
  | .plv3 => raise (.ipe (encode i)) s
  | .plv0 => .refused (.noSemantics (encode i))

end Sys2Proof.Machine
end

