-- ==== Sys2Proof/Machine/Operands.lean ====
section
/-! DEFINITION. The operand forms: immediates and their extension (30_encoding.md R103), branch targets (43_branch.md R160),
addresses (44_load_store.md R175, 45_atomic_barrier.md R190), and the shapes of register instructions. -/

namespace Sys2Proof.Machine

/-- `sext_32(si12)`. -/
def sext12 (si12 : BitVec 12) : Word := si12.signExtend 32

/-- `zext_32(ui12)`. -/
def zext12 (ui12 : BitVec 12) : Word := ui12.setWidth 32

/-- `{si20, 12'b0}`. -/
def upper20 (si20 : BitVec 20) : Word := (si20 ++ 0#12 : BitVec (20 + 12))

/-- `sext_32({si14, 2'b0})`. -/
def sext14 (si14 : BitVec 14) : Word := (si14 ++ 0#2 : BitVec (14 + 2)).signExtend 32

/-- `sext_32({offs16, 2'b0})`. -/
def offset16 (offs16 : BitVec 16) : Word := (offs16 ++ 0#2 : BitVec (16 + 2)).signExtend 32

/-- `sext_32({offs21, 2'b0})`. -/
def offset21 (offs21 : BitVec 21) : Word := (offs21 ++ 0#2 : BitVec (21 + 2)).signExtend 32

/-- `sext_32({offs26, 2'b0})`. -/
def offset26 (offs26 : BitVec 26) : Word := (offs26 ++ 0#2 : BitVec (26 + 2)).signExtend 32

/-- `vaddr = x[rj] + sext_32(si12)` modulo 2^32 (44_load_store.md R175). -/
def vaddr12 (rj : RegNo) (si12 : BitVec 12) (s : State) : Word := readGpr rj s + sext12 si12

/-- `vaddr = x[rj] + sext_32({si14, 2'b0})` modulo 2^32 (45_atomic_barrier.md R190). -/
def vaddr14 (rj : RegNo) (si14 : BitVec 14) (s : State) : Word := readGpr rj s + sext14 si14

/-- `x[rd] <- v; pc <- pc + 4`, the end of every instruction with a general-register result (40_int_arith_logic.md R120). -/
def gprResult (rd : RegNo) (v : Word) (s : State) : Out := .next (advance (writeGpr rd v s))

/-- `x[rd] <- any_32(); pc <- pc + 4` (00_scope.md R11). -/
def gprDraw (rd : RegNo) (s : State) : Out := .next (advance (drawn (writeGpr rd (draw s) s)))

/-- 1 or 0 (40_int_arith_logic.md R125). -/
def boolWord (b : Bool) : Word := if b then 1 else 0

/-- `if taken then pc <- pc + offset else pc <- pc + 4` (43_branch.md R160). -/
def branchIf (taken : Bool) (offset : Word) (s : State) : Out :=
  .next (if taken then jump (s.pc + offset) s else advance s)

end Sys2Proof.Machine
end

