-- ==== Sys2Proof/Machine/Atomic.lean ====
section
/-! DEFINITION. LL.W, SC.W and the barriers (45_atomic_barrier.md). -/

namespace Sys2Proof.Machine

/-- `LLbit <- b` (10_state.md R45). -/
def setLlbit (b : Bool) (s : State) : State := { s with llbit := b }

/-- LL.W: `x[rd] <- MemRead(vaddr, 4)`; `LLbit <- 1` (R190). -/
def execLlW (rd rj : RegNo) (si14 : BitVec 14) (s : State) : Out :=
  loadAccess 4 (vaddr14 rj si14 s) (fun v t => setLlbit true (writeGpr rd (BitVec.ofNat 32 v) t)) s

/-- SC.W: with LLbit 1, the old `x[rd]` is stored and `x[rd] <- 1`; with LLbit 0, `x[rd] <- 0`; then `LLbit <- 0`. ALE and
the refusal come before LLbit is read (R191). -/
def execScW (rd rj : RegNo) (si14 : BitVec 14) (s : State) : Out :=
  guardAccess 4 (vaddr14 rj si14 s) s
    (.next (advance (setLlbit false
      (if s.llbit then writeGpr rd 1 (memWrite 4 (vaddr14 rj si14 s) (readGpr rd s).toNat s) else writeGpr rd 0 s))))

/-- DBAR: in a model of one hart, only `pc <- pc + 4` (R193). -/
def execDbar (_hint : BitVec 15) (s : State) : Out := .next (advance s)

/-- IBAR: `dirty <- {}` (R194). -/
def execIbar (_hint : BitVec 15) (s : State) : Out := .next (advance { s with dirty := [] })

end Sys2Proof.Machine
end

