-- ==== Sys2Proof/Machine/Branch.lean ====
section
/-! DEFINITION. Branches, jumps, call and return (43_branch.md), and the branches on a condition flag
(49_fp_move_branch_mem.md section 5). There is no delay slot (R172). -/

namespace Sys2Proof.Machine

/-- BEQ (R161). -/
def execBeq (rj rd : RegNo) (offs16 : BitVec 16) (s : State) : Out :=
  branchIf (readGpr rj s == readGpr rd s) (offset16 offs16) s
/-- BNE (R162). -/
def execBne (rj rd : RegNo) (offs16 : BitVec 16) (s : State) : Out :=
  branchIf (readGpr rj s != readGpr rd s) (offset16 offs16) s
/-- BLT (R163). -/
def execBlt (rj rd : RegNo) (offs16 : BitVec 16) (s : State) : Out :=
  branchIf ((readGpr rj s).slt (readGpr rd s)) (offset16 offs16) s
/-- BGE (R164). -/
def execBge (rj rd : RegNo) (offs16 : BitVec 16) (s : State) : Out :=
  branchIf ((readGpr rd s).sle (readGpr rj s)) (offset16 offs16) s
/-- BLTU (R165). -/
def execBltu (rj rd : RegNo) (offs16 : BitVec 16) (s : State) : Out :=
  branchIf ((readGpr rj s).ult (readGpr rd s)) (offset16 offs16) s
/-- BGEU (R166). -/
def execBgeu (rj rd : RegNo) (offs16 : BitVec 16) (s : State) : Out :=
  branchIf ((readGpr rd s).ule (readGpr rj s)) (offset16 offs16) s

/-- B: `pc <- pc + sext_32({offs26, 2'b0})` (R167). -/
def execB (offs26 : BitVec 26) (s : State) : Out := .next (jump (s.pc + offset26 offs26) s)

/-- `x[r] <- pc + 4; pc <- target`, both from the state before (R168, R171). -/
def linkAndJump (r : RegNo) (target : Word) (s : State) : Out := .next (jump target (writeGpr r (s.pc + 4) s))

/-- BL: the link goes to r1 (R168). -/
def execBl (offs26 : BitVec 26) (s : State) : Out := linkAndJump 1 (s.pc + offset26 offs26) s

/-- JIRL: `t = x[rj] + sext_32({offs16, 2'b0})` from the old `x[rj]`; a misaligned `t` is left to the next fetch
(R171, R173). -/
def execJirl (rd rj : RegNo) (offs16 : BitVec 16) (s : State) : Out :=
  linkAndJump rd (readGpr rj s + offset16 offs16) s

/-- BCEQZ (49_fp_move_branch_mem.md R335). -/
def execBceqz (cj : CfNo) (offs21 : BitVec 21) (s : State) : Out := branchIf (!readFcc cj s) (offset21 offs21) s

/-- BCNEZ (49_fp_move_branch_mem.md R336). -/
def execBcnez (cj : CfNo) (offs21 : BitVec 21) (s : State) : Out := branchIf (readFcc cj s) (offset21 offs21) s

end Sys2Proof.Machine
end

