-- ==== Sys2Proof/Machine/FpNumerics.lean ====
section
/-! DEFINITION. FP_NUMERICS (47_fp_arith.md R230 to R238, 48_fp_cmp_cvt.md R290 to R299): the IEEE 754-2008 operations, by
exact integer arithmetic and one rounding. What the spec leaves open is a free value of `Config`. -/

namespace Sys2Proof.Machine

/-! ### Formats, values, rounding modes -/

/-- The widths of a binary interchange format (10_state.md R31). -/
structure FloatLayout where
  expBits : Nat
  fracBits : Nat
deriving DecidableEq, Repr

/-- binary32 and binary64 (10_state.md R31). -/
def layout : FpFormat → FloatLayout
  | .single => { expBits := 8, fracBits := 23 }
  | .double => { expBits := 11, fracBits := 52 }

/-- The exponent field of infinities and NaNs. -/
def expOnes (fmt : FpFormat) : Nat := 2 ^ (layout fmt).expBits - 1

/-- The exponent of the last place of subnormal numbers: -149 and -1074. -/
def minQuantum (fmt : FpFormat) : Int := 2 - 2 ^ ((layout fmt).expBits - 1) - (layout fmt).fracBits

/-- What a bit pattern stands for. A finite value is `(-1)^neg * m * 2^e`. -/
inductive FpValue where
  | nan (signaling : Bool)
  | inf (neg : Bool)
  | fin (neg : Bool) (m : Nat) (e : Int)
deriving DecidableEq, Repr

/-- The fraction field. -/
def fracField (fmt : FpFormat) (w : DWord) : Nat := w.toNat % 2 ^ (layout fmt).fracBits
/-- The exponent field. -/
def expField (fmt : FpFormat) (w : DWord) : Nat := w.toNat / 2 ^ (layout fmt).fracBits % 2 ^ (layout fmt).expBits
/-- The sign bit. -/
def signField (fmt : FpFormat) (w : DWord) : Bool := w.toNat.testBit ((layout fmt).expBits + (layout fmt).fracBits)

/-- The value of a bit pattern (10_state.md R31). The leading fraction bit separates quiet (1) from signaling (0) NaNs
(47_fp_arith.md R234, log 25). -/
def unpack (fmt : FpFormat) (w : DWord) : FpValue :=
  let frac := fracField fmt w
  let exp := expField fmt w
  let neg := signField fmt w
  if exp = expOnes fmt then
    if frac = 0 then .inf neg else .nan (decide (frac < 2 ^ ((layout fmt).fracBits - 1)))
  else if exp = 0 then .fin neg frac (minQuantum fmt)
  else .fin neg (2 ^ (layout fmt).fracBits + frac) (minQuantum fmt + (exp - 1))

/-- The bit pattern with the given sign over the given magnitude bits. -/
def packBits (fmt : FpFormat) (neg : Bool) (magnitude : Nat) : DWord :=
  BitVec.ofNat 64 ((if neg then 2 ^ ((layout fmt).expBits + (layout fmt).fracBits) else 0) + magnitude)

/-- The magnitude bits of infinity. -/
def infMagnitude (fmt : FpFormat) : Nat := expOnes fmt * 2 ^ (layout fmt).fracBits

/-- RNE, RZ, RP, RM (10_state.md R39). -/
inductive RoundMode where
  | rne | rz | rp | rm
deriving DecidableEq, Repr

/-- The modes by number (10_state.md R39, 47_fp_arith.md R231). -/
def roundModeOf (n : BitVec 2) : RoundMode :=
  match n.toNat with
  | 0 => .rne
  | 1 => .rz
  | 2 => .rp
  | _ => .rm

/-- What an operation reads of fcsr0: RM, and whether U is enabled (47_fp_arith.md R231, R232). -/
structure FpEnv where
  mode : RoundMode
  underflowEnabled : Bool
deriving DecidableEq, Repr

/-- The result of an operation: some quiet NaN (R234), or the bits of a value in the destination format. -/
inductive FpRes where
  | quietNan
  | bits (w : DWord)
deriving DecidableEq, Repr

/-- A result and the exceptions that occurred (R232). -/
structure FpOut where
  res : FpRes
  exc : FpExc
deriving DecidableEq, Repr

/-- V, invalid operation (R232). -/
def excV : FpExc := 0b10000#5
/-- Z, division by zero (R232). -/
def excZ : FpExc := 0b01000#5
/-- O, overflow (R232). -/
def excO : FpExc := 0b00100#5
/-- U, underflow (R232). -/
def excU : FpExc := 0b00010#5
/-- I, inexact (R232). -/
def excI : FpExc := 0b00001#5

/-- The exception if the condition holds, else none. -/
def excIf (b : Bool) (e : FpExc) : FpExc := if b then e else 0

/-- An invalid operation: a quiet NaN with V (R232, R234). -/
def invalidOperation : FpOut := { res := .quietNan, exc := excV }

/-- A NaN operand: a quiet NaN, with V if an operand is signaling (R232, R234). -/
def nanResult (signaling : Bool) : FpOut := { res := .quietNan, exc := excIf signaling excV }

/-- An exact result. -/
def exactResult (w : DWord) : FpOut := { res := .bits w, exc := 0 }

/-- Whether the operand is a NaN. -/
def FpValue.isNan : FpValue → Bool
  | .nan _ => true
  | _ => false

/-- Whether the operand is a signaling NaN. -/
def FpValue.isSignaling : FpValue → Bool
  | .nan s => s
  | _ => false

/-! ### Rounding (R231, R232) -/

/-- Whether the magnitude `lo + rem / unit`, with `0 <= rem < unit`, rounds up to `lo + 1` (R231). -/
def roundsUp (mode : RoundMode) (neg : Bool) (lo rem unit : Nat) : Bool :=
  match mode with
  | .rne => decide (unit < 2 * rem) || (decide (2 * rem = unit) && decide (lo % 2 = 1))
  | .rz => false
  | .rp => !neg && decide (rem ≠ 0)
  | .rm => neg && decide (rem ≠ 0)

/-- `m * 2^e` as a whole number of `2^q`, rounded, and whether that is inexact (R231). -/
def quantize (mode : RoundMode) (neg : Bool) (m : Nat) (e q : Int) : Nat × Bool :=
  if q ≤ e then (m * 2 ^ (e - q).toNat, false)
  else
    let unit := 2 ^ (q - e).toNat
    let lo := m / unit
    let rem := m % unit
    (if roundsUp mode neg lo rem unit then lo + 1 else lo, decide (rem ≠ 0))

/-- The result of an overflow: infinity, or the largest finite number where the mode rounds toward zero (R231, R232). -/
def overflowMagnitude (fmt : FpFormat) (mode : RoundMode) (neg : Bool) : Nat :=
  match mode, neg with
  | .rne, _ | .rp, false | .rm, true => infMagnitude fmt
  | .rz, _ | .rp, true | .rm, false => infMagnitude fmt - 1

/-- The value `(-1)^neg * m * 2^e`, with `m` not 0, rounded to the format (R231, R232). `q` is the exponent of the last place
the exact value would have in an unbounded exponent range. -/
def roundFinite (fmt : FpFormat) (env : FpEnv) (neg : Bool) (m : Nat) (e : Int) : FpOut :=
  let frac := (layout fmt).fracBits
  let q : Int := m.log2 + e - frac
  let qr := max q (minQuantum fmt)
  let (n, inexact) := quantize env.mode neg m e qr
  let magnitude := (qr - minQuantum fmt).toNat * 2 ^ frac + n
  if infMagnitude fmt ≤ magnitude then
    { res := .bits (packBits fmt neg (overflowMagnitude fmt env.mode neg)), exc := excO ||| excI }
  else
    let tinyBefore := decide (q < minQuantum fmt)
    let tinyAfter := tinyBefore &&
      (decide (q + 1 < minQuantum fmt) || decide ((quantize env.mode neg m e q).1 < 2 ^ (frac + 1)))
    let tiny := tinyAfter || (tinyBefore && Config.tinyBeforeRounding)
    { res := .bits (packBits fmt neg magnitude)
      exc := excIf inexact excI ||| excIf (tiny && (inexact || env.underflowEnabled)) excU }

/-- A zero. -/
def zeroResult (fmt : FpFormat) (neg : Bool) : FpOut := exactResult (packBits fmt neg 0)
/-- An infinity. -/
def infResult (fmt : FpFormat) (neg : Bool) : FpOut := exactResult (packBits fmt neg (infMagnitude fmt))

/-- A finite value, rounded; zeros are exact. -/
def roundValue (fmt : FpFormat) (env : FpEnv) (neg : Bool) (m : Nat) (e : Int) : FpOut :=
  if m = 0 then zeroResult fmt neg else roundFinite fmt env neg m e

/-! ### Addition, multiplication, division, fused multiply-add, square root (R236) -/

/-- `(-1)^neg * m * 2^e` as a whole number of `2^q`, for `q <= e`. -/
def scaled (neg : Bool) (m : Nat) (e q : Int) : Int :=
  let v : Int := m * 2 ^ (e - q).toNat
  if neg then -v else v

/-- The sum of two finite values. An exact zero sum of operands that differ in sign is +0, or -0 under RM (R236). -/
def addFinite (fmt : FpFormat) (env : FpEnv) (na : Bool) (ma : Nat) (ea : Int) (nb : Bool) (mb : Nat) (eb : Int) : FpOut :=
  let q := min ea eb
  let sum := scaled na ma ea q + scaled nb mb eb q
  if sum = 0 then zeroResult fmt (if na = nb then na else decide (env.mode = .rm))
  else roundFinite fmt env (decide (sum < 0)) sum.natAbs q

/-- The sum of two values. -/
def addValues (fmt : FpFormat) (env : FpEnv) (a b : FpValue) : FpOut :=
  match a, b with
  | .nan s, .nan t => nanResult (s || t)
  | .nan s, _ => nanResult s
  | _, .nan t => nanResult t
  | .inf na, .inf nb => if na = nb then infResult fmt na else invalidOperation
  | .inf na, .fin .. => infResult fmt na
  | .fin .., .inf nb => infResult fmt nb
  | .fin na ma ea, .fin nb mb eb => addFinite fmt env na ma ea nb mb eb

/-- The value with its sign inverted; of a NaN nothing that a result depends on (R237). -/
def FpValue.negated : FpValue → FpValue
  | .nan s => .nan s
  | .inf n => .inf (!n)
  | .fin n m e => .fin (!n) m e

/-- `addition` (R236). -/
def fpAdd (fmt : FpFormat) (env : FpEnv) (a b : DWord) : FpOut := addValues fmt env (unpack fmt a) (unpack fmt b)

/-- `subtraction` (R236). -/
def fpSub (fmt : FpFormat) (env : FpEnv) (a b : DWord) : FpOut :=
  addValues fmt env (unpack fmt a) (unpack fmt b).negated

/-- The product of two values that are not NaNs, exact, or `none` for 0 * inf. -/
def exactProduct (a b : FpValue) : Option FpValue :=
  match a, b with
  | .inf na, .inf nb => some (.inf (na != nb))
  | .inf na, .fin nb mb _ => if mb = 0 then none else some (.inf (na != nb))
  | .fin na ma _, .inf nb => if ma = 0 then none else some (.inf (na != nb))
  | .fin na ma ea, .fin nb mb eb => some (.fin (na != nb) (ma * mb) (ea + eb))
  | .nan _, _ | _, .nan _ => none

/-- A value rounded to the format. -/
def roundedValue (fmt : FpFormat) (env : FpEnv) (v : FpValue) : FpOut :=
  match v with
  | .nan s => nanResult s
  | .inf n => infResult fmt n
  | .fin n m e => roundValue fmt env n m e

/-- `multiplication` (R236). -/
def fpMul (fmt : FpFormat) (env : FpEnv) (a b : DWord) : FpOut :=
  let va := unpack fmt a
  let vb := unpack fmt b
  if va.isNan || vb.isNan then nanResult (va.isSignaling || vb.isSignaling)
  else match exactProduct va vb with
    | none => invalidOperation
    | some v => roundedValue fmt env v

/-- The quotient of two finite values, the divisor not 0. The integer quotient has more bits than the format; its lowest bit
says that a remainder is left. -/
def divFinite (fmt : FpFormat) (env : FpEnv) (neg : Bool) (ma : Nat) (ea : Int) (mb : Nat) (eb : Int) : FpOut :=
  let k := 2 * (layout fmt).fracBits + 4
  let num := ma * 2 ^ k
  roundValue fmt env neg (2 * (num / mb) + if num % mb = 0 then 0 else 1) (ea - eb - k - 1)

/-- The quotient of two values (R232, R236). -/
def divValues (fmt : FpFormat) (env : FpEnv) (a b : FpValue) : FpOut :=
  match a, b with
  | .nan s, .nan t => nanResult (s || t)
  | .nan s, _ => nanResult s
  | _, .nan t => nanResult t
  | .inf _, .inf _ => invalidOperation
  | .inf na, .fin nb _ _ => infResult fmt (na != nb)
  | .fin na _ _, .inf nb => zeroResult fmt (na != nb)
  | .fin na ma ea, .fin nb mb eb =>
    if mb = 0 then
      if ma = 0 then invalidOperation else { infResult fmt (na != nb) with exc := excZ }
    else divFinite fmt env (na != nb) ma ea mb eb

/-- `division` (R236). -/
def fpDiv (fmt : FpFormat) (env : FpEnv) (a b : DWord) : FpOut := divValues fmt env (unpack fmt a) (unpack fmt b)

/-- `fusedMultiplyAdd(a, b, c)`, or with the addend negated (R236, R237). Whether 0 * inf with a quiet NaN addend raises V is
free (log 12). -/
def fpFma (op : FpOp) (fmt : FpFormat) (env : FpEnv) (negateAddend : Bool) (a b c : DWord) : FpOut :=
  let va := unpack fmt a
  let vb := unpack fmt b
  let vc := if negateAddend then (unpack fmt c).negated else unpack fmt c
  if va.isNan || vb.isNan then nanResult (va.isSignaling || vb.isSignaling || vc.isSignaling)
  else match exactProduct va vb with
    | none =>
      if vc.isNan then nanResult (vc.isSignaling || Config.zeroTimesInfPlusNanRaisesV op fmt a b c)
      else invalidOperation
    | some p => addValues fmt env p vc

/-- The bits of the sign of a format. -/
def signMask (fmt : FpFormat) : DWord := BitVec.ofNat 64 (2 ^ ((layout fmt).expBits + (layout fmt).fracBits))

/-- The negation of a result: its sign bit inverted, after rounding (R237). -/
def FpOut.negated (fmt : FpFormat) (o : FpOut) : FpOut :=
  match o.res with
  | .quietNan => o
  | .bits w => { o with res := .bits (w ^^^ signMask fmt) }

/-- The square root of an integer, rounded down, bit by bit from bit `k - 1`. -/
def isqrtFrom (n : Nat) : Nat → Nat → Nat
  | 0, root => root
  | k + 1, root => isqrtFrom n k (if (root + 2 ^ k) * (root + 2 ^ k) ≤ n then root + 2 ^ k else root)

/-- The square root of an integer, rounded down. -/
def isqrt (n : Nat) : Nat := isqrtFrom n (n.log2 / 2 + 1) 0

/-- The square root of a positive finite value. The integer root has more bits than the format; its lowest bit says that it is
not exact. -/
def sqrtFinite (fmt : FpFormat) (env : FpEnv) (m : Nat) (e : Int) : FpOut :=
  let k := 2 * (layout fmt).fracBits + 6 + (e % 2).toNat
  let n := m * 2 ^ k
  let root := isqrt n
  roundFinite fmt env false (2 * root + if root * root = n then 0 else 1) ((e - k) / 2 - 1)

/-- `squareRoot` (R236). -/
def fpSqrt (fmt : FpFormat) (env : FpEnv) (a : DWord) : FpOut :=
  match unpack fmt a with
  | .nan s => nanResult s
  | .inf true => invalidOperation
  | .inf false => infResult fmt false
  | .fin neg m e =>
    if m = 0 then zeroResult fmt neg
    else if neg then invalidOperation
    else sqrtFinite fmt env m e

/-- 1.0 (R270, R271). -/
def fpOne : FpFormat → DWord
  | .single => 0x3F800000#64
  | .double => 0x3FF0000000000000#64

/-- FRECIP: `division(1.0, x)` (R270). -/
def fpRecip (fmt : FpFormat) (env : FpEnv) (a : DWord) : FpOut := fpDiv fmt env (fpOne fmt) a

/-- FRSQRT as the source composes it: `division(1.0, squareRoot(x))`, the exceptions of both (R272). -/
def fpRsqrt (fmt : FpFormat) (env : FpEnv) (a : DWord) : FpOut :=
  let root := fpSqrt fmt env a
  match root.res with
  | .quietNan => root
  | .bits t =>
    let quotient := fpDiv fmt env (fpOne fmt) t
    { quotient with exc := root.exc ||| quotient.exc }

/-! ### Comparison, maximum and minimum (R236, 48_fp_cmp_cvt.md R290) -/

/-- The four relations of a comparison (48_fp_cmp_cvt.md R290). -/
inductive Relation where
  | un | eq | lt | gt
deriving DecidableEq, Repr

/-- The relation of two integers. -/
def compareInts (a b : Int) : Relation := if a < b then .lt else if b < a then .gt else .eq

/-- The relation of two values: +0 and -0 are equal, infinities are the extremes (R290). -/
def compareValues (a b : FpValue) : Relation :=
  match a, b with
  | .nan _, _ | _, .nan _ => .un
  | .inf na, .inf nb => if na = nb then .eq else if na then .lt else .gt
  | .inf na, .fin .. => if na then .lt else .gt
  | .fin .., .inf nb => if nb then .gt else .lt
  | .fin na ma ea, .fin nb mb eb => compareInts (scaled na ma ea (min ea eb)) (scaled nb mb eb (min ea eb))

/-- The absolute value. -/
def FpValue.magnitude : FpValue → FpValue
  | .nan s => .nan s
  | .inf _ => .inf false
  | .fin _ m e => .fin false m e

/-- Of operands that compare equal, either one (R236, log 13). -/
def equalOperand (op : FpOp) (fmt : FpFormat) (a b : DWord) : DWord := if Config.equalGivesFirst op fmt a b then a else b

/-- The operand that is greater, or smaller if `smaller` (R236). -/
def pickOperand (op : FpOp) (fmt : FpFormat) (smaller : Bool) (a b : DWord) : Relation → DWord
  | .lt => if smaller then a else b
  | .gt => if smaller then b else a
  | .eq | .un => equalOperand op fmt a b

/-- `maxNum` and `minNum`, and by magnitude `maxNumMag` and `minNumMag`, where equal magnitudes are as `maxNum` and `minNum`
(R236). -/
def fpMaxMin (op : FpOp) (fmt : FpFormat) (smaller byMagnitude : Bool) (a b : DWord) : FpOut :=
  let va := unpack fmt a
  let vb := unpack fmt b
  if va.isSignaling || vb.isSignaling then invalidOperation
  else if va.isNan then (if vb.isNan then nanResult false else exactResult b)
  else if vb.isNan then exactResult a
  else
    let plain := compareValues va vb
    let relation :=
      if byMagnitude then
        match compareValues va.magnitude vb.magnitude with
        | .eq => plain
        | r => r
      else plain
    exactResult (pickOperand op fmt smaller a b relation)

/-! ### Conversions (48_fp_cmp_cvt.md R295 to R299) -/

/-- `convertFormat` (R236, R295, R296). -/
def fpConvert (dst src : FpFormat) (env : FpEnv) (a : DWord) : FpOut := roundedValue dst env (unpack src a)

/-- `convertFromInt` (R297, R298). -/
def fpFromInt (fmt : FpFormat) (env : FpEnv) (n : Int) : FpOut := roundValue fmt env (decide (n < 0)) n.natAbs 0

/-- An integer with its sign. -/
def signedInt (neg : Bool) (n : Nat) : Int := if neg then -(n : Int) else n

/-- `toSint32` (48_fp_cmp_cvt.md R299): the 32-bit result and the exceptions. The result of an invalid conversion is free
(log 14). -/
def toSint32 (fmt : FpFormat) (mode : RoundMode) (a : DWord) : Word × FpExc :=
  match unpack fmt a with
  | .nan _ | .inf _ => (Config.ftintInvalid fmt a, excV)
  | .fin neg m e =>
    let (n, inexact) := quantize mode neg m e 0
    let v := signedInt neg n
    if v < -(2 ^ 31) ∨ 2 ^ 31 - 1 < v then (Config.ftintInvalid fmt a, excV)
    else (BitVec.ofInt 32 v, excIf inexact excI)

/-! ### Classification and sign operations (R238, R276) -/

/-- The class as a one-hot mask (R276). PRESUMED, log 15: unsafe. -/
def fpClass (fmt : FpFormat) (a : DWord) : BitVec 10 :=
  match unpack fmt a with
  | .nan true => 0x001#10
  | .nan false => 0x002#10
  | .inf true => 0x004#10
  | .inf false => 0x040#10
  | .fin neg m _ =>
    if m = 0 then (if neg then 0x020#10 else 0x200#10)
    else if m < 2 ^ (layout fmt).fracBits then (if neg then 0x010#10 else 0x100#10)
    else (if neg then 0x008#10 else 0x080#10)

/-! ### Quiet NaN results (R234) -/

/-- Whether the operation is a function of RM as well (R236). `maxNum` and its kin (R256 to R263) and the widening
`convertFormat` (48_fp_cmp_cvt.md R296) are not. -/
def opReadsRounding : FpOp → FpFormat → Bool
  | .maxNum, _ | .minNum, _ | .maxNumMag, _ | .minNumMag, _ | .convertFormat, .double => false
  | _, _ => true

/-- RM as the operation sees it: a constant where it does not read it. -/
def roundingSeen (op : FpOp) (fmt : FpFormat) (rm : BitVec 2) : BitVec 2 := if opReadsRounding op fmt then rm else 0

/-- The bits of a result: a quiet NaN has an exponent field of ones and the leading fraction bit 1, the rest is free, a function of
RM, if the operation reads it, and the operands (R234, log 10). -/
def FpOut.value (o : FpOut) (op : FpOp) (fmt : FpFormat) (rm : BitVec 2) (a b c : DWord) : DWord :=
  match o.res with
  | .bits w => w
  | .quietNan =>
    match fmt with
    | .single => (0#32 ++ Config.nanSign op fmt (roundingSeen op fmt rm) a b c ++ 0xFF#8 ++ 1#1 ++
          Config.nanPayloadS op (roundingSeen op fmt rm) a b c :
        BitVec (32 + 1 + 8 + 1 + 22))
    | .double => (Config.nanSign op fmt (roundingSeen op fmt rm) a b c ++ 0x7FF#11 ++ 1#1 ++
          Config.nanPayloadD op (roundingSeen op fmt rm) a b c :
        BitVec (1 + 11 + 1 + 51))

end Sys2Proof.Machine
end

