-- ==== Sys2Proof/Machine/Flags.lean ====
section
/-! DEFINITION. FCSR0, its fields and its views (10_state.md R37 to R44), the end of every floating-point instruction that can
raise an exception (47_fp_arith.md R233), and the condition table of FCMP (48_fp_cmp_cvt.md R291). -/

namespace Sys2Proof.Machine

/-! ### Fields of fcsr0 (10_state.md R37) -/

/-- Enables, bits 4:0 (R38). -/
def enables (s : State) : FpExc := s.fcsr0.extractLsb' 0 5
/-- RM, bits 9:8 (R39). -/
def roundingBits (s : State) : BitVec 2 := s.fcsr0.extractLsb' 8 2
/-- Flags, bits 20:16 (R40). -/
def flagsField (s : State) : FpExc := s.fcsr0.extractLsb' 16 5
/-- Cause, bits 28:24 (R41). -/
def causeField (s : State) : FpExc := s.fcsr0.extractLsb' 24 5

/-- `fcsr0[28:24] <- E` (47_fp_arith.md R233). -/
def setCause (exc : FpExc) (s : State) : State :=
  { s with fcsr0 := (s.fcsr0 &&& 0xE0FFFFFF#32) ||| (exc.setWidth 32 <<< 24) }

/-- `fcsr0[20:16] <- fcsr0[20:16] | E` (47_fp_arith.md R233). -/
def accumulateFlags (exc : FpExc) (s : State) : State := { s with fcsr0 := s.fcsr0 ||| (exc.setWidth 32 <<< 16) }

/-- The writable bits of fcsr0 (R37). -/
def fcsrWritable : Word := 0x1F1F031F#32

/-- `FMASK(n)` (R43), or `none` for an index above 3 (49_fp_move_branch_mem.md R332). -/
def fcsrMask (n : BitVec 5) : Option Word :=
  match n.toNat with
  | 0 => some 0x1F1F031F#32
  | 1 => some 0x0000001F#32
  | 2 => some 0x1F1F0000#32
  | 3 => some 0x00000300#32
  | _ => none

/-- The masked write of R43. -/
def writeFcsr (mask v : Word) (s : State) : State := { s with fcsr0 := (s.fcsr0 &&& ~~~mask) ||| (v &&& mask) }

/-! ### The end of a floating-point operation -/

/-- What an operation reads of fcsr0 (47_fp_arith.md R231, R232). -/
def fpEnv (s : State) : FpEnv :=
  { mode := roundModeOf (roundingBits s), underflowEnabled := (enables s).getLsbD 1 }

/-- The procedure of 47_fp_arith.md R233: Cause is written; an enabled exception traps with Cause written and nothing else;
otherwise Flags accumulates, the destination is written and the pc advances. -/
def fpFinish (exc : FpExc) (write : State → State) (s : State) : Out :=
  if exc &&& enables s ≠ 0 then raise (.fpe exc) (setCause exc s)
  else .next (advance (write (accumulateFlags exc (setCause exc s))))

/-- `S(i)` (47_fp_arith.md R230), under zeros. -/
def operandS (r : FprNo) (s : State) : DWord := (readFprLow r s).setWidth 64

/-- `D(i)` (47_fp_arith.md R230). -/
def operandD (r : FprNo) (s : State) : DWord := readFpr r s

/-- The end of a `.S` operation: R233, and the result write of 47_fp_arith.md R235. -/
def fpResultS (op : FpOp) (fd : FprNo) (a b c : DWord) (out : FpOut) (s : State) : Out :=
  fpFinish out.exc (writeFprLow fd ((out.value op .single (roundingBits s) a b c).extractLsb' 0 32)) s

/-- The end of a `.D` operation: R233, and the result write of 47_fp_arith.md R235. -/
def fpResultD (op : FpOp) (fd : FprNo) (a b c : DWord) (out : FpOut) (s : State) : Out :=
  fpFinish out.exc (writeFpr fd (out.value op .double (roundingBits s) a b c)) s

/-- A binary `.S` operation. -/
def fpBinaryS (op : FpOp) (f : FpEnv → DWord → DWord → FpOut) (fd fj fk : FprNo) (s : State) : Out :=
  fpResultS op fd (operandS fj s) (operandS fk s) 0 (f (fpEnv s) (operandS fj s) (operandS fk s)) s

/-- A binary `.D` operation. -/
def fpBinaryD (op : FpOp) (f : FpEnv → DWord → DWord → FpOut) (fd fj fk : FprNo) (s : State) : Out :=
  fpResultD op fd (operandD fj s) (operandD fk s) 0 (f (fpEnv s) (operandD fj s) (operandD fk s)) s

/-- A unary `.S` operation. -/
def fpUnaryS (op : FpOp) (f : FpEnv → DWord → FpOut) (fd fj : FprNo) (s : State) : Out :=
  fpResultS op fd (operandS fj s) 0 0 (f (fpEnv s) (operandS fj s)) s

/-- A unary `.D` operation. -/
def fpUnaryD (op : FpOp) (f : FpEnv → DWord → FpOut) (fd fj : FprNo) (s : State) : Out :=
  fpResultD op fd (operandD fj s) 0 0 (f (fpEnv s) (operandD fj s)) s

/-- A ternary `.S` operation. -/
def fpTernaryS (op : FpOp) (f : FpEnv → DWord → DWord → DWord → FpOut) (fd fj fk fa : FprNo) (s : State) : Out :=
  fpResultS op fd (operandS fj s) (operandS fk s) (operandS fa s)
    (f (fpEnv s) (operandS fj s) (operandS fk s) (operandS fa s)) s

/-- A ternary `.D` operation. -/
def fpTernaryD (op : FpOp) (f : FpEnv → DWord → DWord → DWord → FpOut) (fd fj fk fa : FprNo) (s : State) : Out :=
  fpResultD op fd (operandD fj s) (operandD fk s) (operandD fa s)
    (f (fpEnv s) (operandD fj s) (operandD fk s) (operandD fa s)) s

/-- A conversion to integer: the 32-bit result and the exceptions, ended by R233 (48_fp_cmp_cvt.md R299). -/
def ftint (fd : FprNo) (result : Word × FpExc) (s : State) : Out := fpFinish result.2 (writeFprLow fd result.1) s

/-! ### The condition table of FCMP -/

/-- The true set of a condition, and whether a quiet NaN raises V, as listed (48_fp_cmp_cvt.md R291); `none` for the unlisted
conditions (R294). -/
def fcmpCondition (cond : BitVec 5) : Option (List Relation × Bool) :=
  match cond.toNat with
  | 0x00 => some ([], false)
  | 0x08 => some ([.un], false)
  | 0x04 => some ([.eq], false)
  | 0x0C => some ([.un, .eq], false)
  | 0x02 => some ([.lt], false)
  | 0x0A => some ([.un, .lt], false)
  | 0x06 => some ([.lt, .eq], false)
  | 0x0E => some ([.un, .lt, .eq], false)
  | 0x10 => some ([.gt, .lt], false)
  | 0x14 => some ([.gt, .lt, .eq], false)
  | 0x18 => some ([.un, .gt, .lt], false)
  | 0x01 => some ([], true)
  | 0x09 => some ([.un], true)
  | 0x05 => some ([.eq], true)
  | 0x0D => some ([.un, .eq], true)
  | 0x03 => some ([.lt], true)
  | 0x0B => some ([.un, .lt], true)
  | 0x07 => some ([.lt, .eq], true)
  | 0x0F => some ([.un, .lt, .eq], true)
  | 0x11 => some ([.gt, .lt], true)
  | 0x15 => some ([.gt, .lt, .eq], true)
  | 0x19 => some ([.un, .gt, .lt], true)
  | _ => none

/-- The exceptions of a comparison: V for a signaling NaN, and for any NaN where the condition says so
(48_fp_cmp_cvt.md R292). -/
def fcmpExceptions (signaling : Bool) (a b : FpValue) : FpExc :=
  excIf (a.isSignaling || b.isSignaling || (signaling && (a.isNan || b.isNan))) excV

/-- A comparison (48_fp_cmp_cvt.md R292, R293). -/
def fcmp (cond : BitVec 5) (cd : CfNo) (a b : FpValue) (s : State) : Out :=
  match fcmpCondition cond with
  | none => .refused (.fcmpCond cond)
  | some (trueSet, signaling) =>
    fpFinish (fcmpExceptions signaling a b) (writeFcc cd (trueSet.contains (compareValues a b))) s

end Sys2Proof.Machine
end

