-- ==== Sys2Proof/Machine/FpArith.lean ====
section
/-! DEFINITION. Floating-point arithmetic (47_fp_arith.md). Every instruction but the sign operations and FCLASS ends by the
procedure of R233. -/

namespace Sys2Proof.Machine

/-- FADD.S (R240). -/
def execFaddS (fd fj fk : FprNo) (s : State) : Out := fpBinaryS .addition (fpAdd .single) fd fj fk s
/-- FADD.D (R241). -/
def execFaddD (fd fj fk : FprNo) (s : State) : Out := fpBinaryD .addition (fpAdd .double) fd fj fk s
/-- FSUB.S (R242). -/
def execFsubS (fd fj fk : FprNo) (s : State) : Out := fpBinaryS .subtraction (fpSub .single) fd fj fk s
/-- FSUB.D (R243). -/
def execFsubD (fd fj fk : FprNo) (s : State) : Out := fpBinaryD .subtraction (fpSub .double) fd fj fk s
/-- FMUL.S (R244). -/
def execFmulS (fd fj fk : FprNo) (s : State) : Out := fpBinaryS .multiplication (fpMul .single) fd fj fk s
/-- FMUL.D (R245). -/
def execFmulD (fd fj fk : FprNo) (s : State) : Out := fpBinaryD .multiplication (fpMul .double) fd fj fk s
/-- FDIV.S (R246). -/
def execFdivS (fd fj fk : FprNo) (s : State) : Out := fpBinaryS .division (fpDiv .single) fd fj fk s
/-- FDIV.D (R247). -/
def execFdivD (fd fj fk : FprNo) (s : State) : Out := fpBinaryD .division (fpDiv .double) fd fj fk s

/-- FMADD.S: `fj * fk + fa`, rounded once (R237, R248). -/
def execFmaddS (fd fj fk fa : FprNo) (s : State) : Out :=
  fpTernaryS .fmadd (fun env => fpFma .fmadd .single env false) fd fj fk fa s
/-- FMADD.D: `fj * fk + fa`, rounded once (R237, R249). -/
def execFmaddD (fd fj fk fa : FprNo) (s : State) : Out :=
  fpTernaryD .fmadd (fun env => fpFma .fmadd .double env false) fd fj fk fa s
/-- FMSUB.S: `fj * fk - fa`, rounded once (R237, R250). -/
def execFmsubS (fd fj fk fa : FprNo) (s : State) : Out :=
  fpTernaryS .fmsub (fun env => fpFma .fmsub .single env true) fd fj fk fa s
/-- FMSUB.D: `fj * fk - fa`, rounded once (R237, R251). -/
def execFmsubD (fd fj fk fa : FprNo) (s : State) : Out :=
  fpTernaryD .fmsub (fun env => fpFma .fmsub .double env true) fd fj fk fa s
/-- FNMADD.S: `-(fj * fk + fa)`, rounded once, before the outer negation (R237, R252). -/
def execFnmaddS (fd fj fk fa : FprNo) (s : State) : Out :=
  fpTernaryS .fnmadd (fun env a b c => (fpFma .fnmadd .single env false a b c).negated .single) fd fj fk fa s
/-- FNMADD.D: `-(fj * fk + fa)`, rounded once, before the outer negation (R237, R253). -/
def execFnmaddD (fd fj fk fa : FprNo) (s : State) : Out :=
  fpTernaryD .fnmadd (fun env a b c => (fpFma .fnmadd .double env false a b c).negated .double) fd fj fk fa s
/-- FNMSUB.S: `-(fj * fk - fa)`, rounded once, before the outer negation (R237, R254). -/
def execFnmsubS (fd fj fk fa : FprNo) (s : State) : Out :=
  fpTernaryS .fnmsub (fun env a b c => (fpFma .fnmsub .single env true a b c).negated .single) fd fj fk fa s
/-- FNMSUB.D: `-(fj * fk - fa)`, rounded once, before the outer negation (R237, R255). -/
def execFnmsubD (fd fj fk fa : FprNo) (s : State) : Out :=
  fpTernaryD .fnmsub (fun env a b c => (fpFma .fnmsub .double env true a b c).negated .double) fd fj fk fa s

/-- FMAX.S (R256). -/
def execFmaxS (fd fj fk : FprNo) (s : State) : Out :=
  fpBinaryS .maxNum (fun _ => fpMaxMin .maxNum .single false false) fd fj fk s
/-- FMAX.D (R257). -/
def execFmaxD (fd fj fk : FprNo) (s : State) : Out :=
  fpBinaryD .maxNum (fun _ => fpMaxMin .maxNum .double false false) fd fj fk s
/-- FMIN.S (R258). -/
def execFminS (fd fj fk : FprNo) (s : State) : Out :=
  fpBinaryS .minNum (fun _ => fpMaxMin .minNum .single true false) fd fj fk s
/-- FMIN.D (R259). -/
def execFminD (fd fj fk : FprNo) (s : State) : Out :=
  fpBinaryD .minNum (fun _ => fpMaxMin .minNum .double true false) fd fj fk s
/-- FMAXA.S (R260). -/
def execFmaxaS (fd fj fk : FprNo) (s : State) : Out :=
  fpBinaryS .maxNumMag (fun _ => fpMaxMin .maxNumMag .single false true) fd fj fk s
/-- FMAXA.D (R261). -/
def execFmaxaD (fd fj fk : FprNo) (s : State) : Out :=
  fpBinaryD .maxNumMag (fun _ => fpMaxMin .maxNumMag .double false true) fd fj fk s
/-- FMINA.S (R262). -/
def execFminaS (fd fj fk : FprNo) (s : State) : Out :=
  fpBinaryS .minNumMag (fun _ => fpMaxMin .minNumMag .single true true) fd fj fk s
/-- FMINA.D (R263). -/
def execFminaD (fd fj fk : FprNo) (s : State) : Out :=
  fpBinaryD .minNumMag (fun _ => fpMaxMin .minNumMag .double true true) fd fj fk s

/-- `f[fd][31:0] <- v`, bits 63:32 `any_32()`, `pc <- pc + 4`, fcsr0 unchanged (R238). -/
def fprLowResult (fd : FprNo) (v : Word) (s : State) : Out := .next (advance (writeFprLow fd v s))

/-- `f[fd] <- v; pc <- pc + 4`, fcsr0 unchanged (R238). -/
def fprResult (fd : FprNo) (v : DWord) (s : State) : Out := .next (advance (writeFpr fd v s))

/-- FABS.S: `{1'b0, f[fj][30:0]}` (R264). -/
def execFabsS (fd fj : FprNo) (s : State) : Out :=
  fprLowResult fd (0#1 ++ (readFprLow fj s).extractLsb' 0 31 : BitVec (1 + 31)) s
/-- FABS.D: `{1'b0, f[fj][62:0]}` (R265). -/
def execFabsD (fd fj : FprNo) (s : State) : Out :=
  fprResult fd (0#1 ++ (readFpr fj s).extractLsb' 0 63 : BitVec (1 + 63)) s
/-- FNEG.S: `{~f[fj][31], f[fj][30:0]}` (R266). -/
def execFnegS (fd fj : FprNo) (s : State) : Out :=
  fprLowResult fd (~~~(readFprLow fj s).extractLsb' 31 1 ++ (readFprLow fj s).extractLsb' 0 31 : BitVec (1 + 31)) s
/-- FNEG.D: `{~f[fj][63], f[fj][62:0]}` (R267). -/
def execFnegD (fd fj : FprNo) (s : State) : Out :=
  fprResult fd (~~~(readFpr fj s).extractLsb' 63 1 ++ (readFpr fj s).extractLsb' 0 63 : BitVec (1 + 63)) s
/-- FCOPYSIGN.S: `{f[fk][31], f[fj][30:0]}` (R274). -/
def execFcopysignS (fd fj fk : FprNo) (s : State) : Out :=
  fprLowResult fd ((readFprLow fk s).extractLsb' 31 1 ++ (readFprLow fj s).extractLsb' 0 31 : BitVec (1 + 31)) s
/-- FCOPYSIGN.D: `{f[fk][63], f[fj][62:0]}` (R275). -/
def execFcopysignD (fd fj fk : FprNo) (s : State) : Out :=
  fprResult fd ((readFpr fk s).extractLsb' 63 1 ++ (readFpr fj s).extractLsb' 0 63 : BitVec (1 + 63)) s

/-- FSQRT.S (R268). -/
def execFsqrtS (fd fj : FprNo) (s : State) : Out := fpUnaryS .squareRoot (fpSqrt .single) fd fj s
/-- FSQRT.D (R269). -/
def execFsqrtD (fd fj : FprNo) (s : State) : Out := fpUnaryD .squareRoot (fpSqrt .double) fd fj s
/-- FRECIP.S (R270). -/
def execFrecipS (fd fj : FprNo) (s : State) : Out := fpUnaryS .recip (fpRecip .single) fd fj s
/-- FRECIP.D (R271). -/
def execFrecipD (fd fj : FprNo) (s : State) : Out := fpUnaryD .recip (fpRecip .double) fd fj s
/-- FRSQRT.S (R272). -/
def execFrsqrtS (fd fj : FprNo) (s : State) : Out := fpUnaryS .rsqrt (fpRsqrt .single) fd fj s
/-- FRSQRT.D (R273). -/
def execFrsqrtD (fd fj : FprNo) (s : State) : Out := fpUnaryD .rsqrt (fpRsqrt .double) fd fj s

/-- FCLASS.S: `f[fd][31:0] <- class_S(S(fj))`, bits 63:32 `any_32()` (R276, log 15). -/
def execFclassS (fd fj : FprNo) (s : State) : Out :=
  fprLowResult fd ((fpClass .single (operandS fj s)).setWidth 32) s
/-- FCLASS.D: `f[fd] <- zext_64(class_D(D(fj)))` (R277, log 15). -/
def execFclassD (fd fj : FprNo) (s : State) : Out :=
  fprResult fd ((fpClass .double (operandD fj s)).setWidth 64) s

end Sys2Proof.Machine
end

