-- ==== Sys2Proof/Machine/FpCompare.lean ====
section
/-! DEFINITION. Floating-point compare and conversion (48_fp_cmp_cvt.md). All end by the procedure of 47_fp_arith.md R233. -/

namespace Sys2Proof.Machine

/-- FCMP.cond.S (R292). -/
def execFcmpS (cond : BitVec 5) (cd : CfNo) (fj fk : FprNo) (s : State) : Out :=
  fcmp cond cd (unpack .single (operandS fj s)) (unpack .single (operandS fk s)) s
/-- FCMP.cond.D (R293). -/
def execFcmpD (cond : BitVec 5) (cd : CfNo) (fj fk : FprNo) (s : State) : Out :=
  fcmp cond cd (unpack .double (operandD fj s)) (unpack .double (operandD fk s)) s

/-- FCVT.S.D (R295). -/
def execFcvtSD (fd fj : FprNo) (s : State) : Out :=
  fpResultS .convertFormat fd (operandD fj s) 0 0 (fpConvert .single .double (fpEnv s) (operandD fj s)) s
/-- FCVT.D.S (R296). Neither the value nor the bits of a NaN depend on RM (`opReadsRounding`). -/
def execFcvtDS (fd fj : FprNo) (s : State) : Out :=
  fpResultD .convertFormat fd (operandS fj s) 0 0 (fpConvert .double .single (fpEnv s) (operandS fj s)) s

/-- FFINT.S.W: `n = signed(f[fj][31:0])` rounded to binary32 (R297). It gives no NaN. -/
def execFfintSW (fd fj : FprNo) (s : State) : Out :=
  fpResultS .convertFormat fd 0 0 0 (fpFromInt .single (fpEnv s) (readFprLow fj s).toInt) s
/-- FFINT.D.W: `n = signed(f[fj][31:0])` as binary64, exact (R298). It gives no NaN. -/
def execFfintDW (fd fj : FprNo) (s : State) : Out :=
  fpResultD .convertFormat fd 0 0 0 (fpFromInt .double (fpEnv s) (readFprLow fj s).toInt) s

/-- FTINT.W.S: fcsr0.RM (R299, R300). -/
def execFtintWS (fd fj : FprNo) (s : State) : Out :=
  ftint fd (toSint32 .single (fpEnv s).mode (operandS fj s)) s
/-- FTINT.W.D: fcsr0.RM (R299, R301). -/
def execFtintWD (fd fj : FprNo) (s : State) : Out :=
  ftint fd (toSint32 .double (fpEnv s).mode (operandD fj s)) s
/-- FTINTRM.W.S: mode 3 (R299, R302). -/
def execFtintrmWS (fd fj : FprNo) (s : State) : Out :=
  ftint fd (toSint32 .single .rm (operandS fj s)) s
/-- FTINTRM.W.D: mode 3 (R299, R303). -/
def execFtintrmWD (fd fj : FprNo) (s : State) : Out :=
  ftint fd (toSint32 .double .rm (operandD fj s)) s
/-- FTINTRP.W.S: mode 2 (R299, R304). -/
def execFtintrpWS (fd fj : FprNo) (s : State) : Out :=
  ftint fd (toSint32 .single .rp (operandS fj s)) s
/-- FTINTRP.W.D: mode 2 (R299, R305). -/
def execFtintrpWD (fd fj : FprNo) (s : State) : Out :=
  ftint fd (toSint32 .double .rp (operandD fj s)) s
/-- FTINTRZ.W.S: mode 1 (R299, R306). -/
def execFtintrzWS (fd fj : FprNo) (s : State) : Out :=
  ftint fd (toSint32 .single .rz (operandS fj s)) s
/-- FTINTRZ.W.D: mode 1 (R299, R307). -/
def execFtintrzWD (fd fj : FprNo) (s : State) : Out :=
  ftint fd (toSint32 .double .rz (operandD fj s)) s
/-- FTINTRNE.W.S: mode 0 (R299, R308). -/
def execFtintrneWS (fd fj : FprNo) (s : State) : Out :=
  ftint fd (toSint32 .single .rne (operandS fj s)) s
/-- FTINTRNE.W.D: mode 0 (R299, R309). -/
def execFtintrneWD (fd fj : FprNo) (s : State) : Out :=
  ftint fd (toSint32 .double .rne (operandD fj s)) s

end Sys2Proof.Machine
end

