-- ==== Sys2Proof/Machine/FpMove.lean ====
section
/-! DEFINITION. Floating-point moves, select, condition-flag moves and FCSR access (49_fp_move_branch_mem.md). They move bit
patterns and raise nothing (R320). -/

namespace Sys2Proof.Machine

/-- FMOV.S: `f[fd][31:0] <- f[fj][31:0]`, bits 63:32 `any_32()` (R321). -/
def execFmovS (fd fj : FprNo) (s : State) : Out := .next (advance (writeFprLow fd (readFprLow fj s) s))
/-- FMOV.D: `f[fd] <- f[fj]` (R322). -/
def execFmovD (fd fj : FprNo) (s : State) : Out := .next (advance (writeFpr fd (readFpr fj s) s))
/-- FSEL: `f[fk]` if `fcc[ca]` is 1, else `f[fj]` (R323). -/
def execFsel (fd fj fk : FprNo) (ca : CfNo) (s : State) : Out :=
  .next (advance (writeFpr fd (if readFcc ca s then readFpr fk s else readFpr fj s) s))
/-- MOVGR2FR.W: `f[fd][31:0] <- x[rj]`, bits 63:32 `any_32()` (R324). -/
def execMovgr2frW (fd : FprNo) (rj : RegNo) (s : State) : Out := .next (advance (writeFprLow fd (readGpr rj s) s))
/-- MOVGR2FRH.W: `f[fd][63:32] <- x[rj]`, bits 31:0 kept (R325). -/
def execMovgr2frhW (fd : FprNo) (rj : RegNo) (s : State) : Out := .next (advance (writeFprHigh fd (readGpr rj s) s))
/-- MOVFR2GR.S: `x[rd] <- f[fj][31:0]` (R326). -/
def execMovfr2grS (rd : RegNo) (fj : FprNo) (s : State) : Out := gprResult rd (readFprLow fj s) s
/-- MOVFRH2GR.S: `x[rd] <- f[fj][63:32]` (R327). -/
def execMovfrh2grS (rd : RegNo) (fj : FprNo) (s : State) : Out := gprResult rd (readFprHigh fj s) s
/-- MOVFR2CF: `fcc[cd] <- f[fj][0]` (R328). -/
def execMovfr2cf (cd : CfNo) (fj : FprNo) (s : State) : Out := .next (advance (writeFcc cd ((readFpr fj s).getLsbD 0) s))
/-- MOVCF2FR: `f[fd] <- zext_64(fcc[cj])` (R329). -/
def execMovcf2fr (fd : FprNo) (cj : CfNo) (s : State) : Out :=
  .next (advance (writeFpr fd ((boolWord (readFcc cj s)).setWidth 64) s))
/-- MOVGR2CF: `fcc[cd] <- x[rj][0]` (R330). -/
def execMovgr2cf (cd : CfNo) (rj : RegNo) (s : State) : Out := .next (advance (writeFcc cd ((readGpr rj s).getLsbD 0) s))
/-- MOVCF2GR: `x[rd] <- zext_32(fcc[cj])` (R331). -/
def execMovcf2gr (rd : RegNo) (cj : CfNo) (s : State) : Out := gprResult rd (boolWord (readFcc cj s)) s
/-- MOVGR2FCSR: the masked write of FCSRn; an index above 3 is refused (R332, R333). -/
def execMovgr2fcsr (fcsr : BitVec 5) (rj : RegNo) (s : State) : Out :=
  match fcsrMask fcsr with
  | some mask => .next (advance (writeFcsr mask (readGpr rj s) s))
  | none => .refused (.fcsrIndex fcsr)
/-- MOVFCSR2GR: the masked read of FCSRn; an index above 3 is refused (R332, R334). -/
def execMovfcsr2gr (rd : RegNo) (fcsr : BitVec 5) (s : State) : Out :=
  match fcsrMask fcsr with
  | some mask => gprResult rd (s.fcsr0 &&& mask) s
  | none => .refused (.fcsrIndex fcsr)

end Sys2Proof.Machine
end

