-- ==== Sys2Proof/Machine/IntArith.lean ====
section
/-! DEFINITION. Integer arithmetic, compare and logic (40_int_arith_logic.md). -/

namespace Sys2Proof.Machine

/-- ADD.W: `x[rd] <- (x[rj] + x[rk])[31:0]` (R121). -/
def execAddW (rd rj rk : RegNo) (s : State) : Out := gprResult rd (readGpr rj s + readGpr rk s) s

/-- SUB.W: `x[rd] <- (x[rj] - x[rk])[31:0]` (R122). -/
def execSubW (rd rj rk : RegNo) (s : State) : Out := gprResult rd (readGpr rj s - readGpr rk s) s

/-- ADDI.W: `x[rd] <- (x[rj] + sext_32(si12))[31:0]` (R123). -/
def execAddiW (rd rj : RegNo) (si12 : BitVec 12) (s : State) : Out := gprResult rd (readGpr rj s + sext12 si12) s

/-- LU12I.W: `x[rd] <- {si20, 12'b0}` (R124). -/
def execLu12iW (rd : RegNo) (si20 : BitVec 20) (s : State) : Out := gprResult rd (upper20 si20) s

/-- PCADDU12I: `x[rd] <- (pc + {si20, 12'b0})[31:0]` (R129). -/
def execPcaddu12i (rd : RegNo) (si20 : BitVec 20) (s : State) : Out := gprResult rd (s.pc + upper20 si20) s

/-- SLT: 1 if `signed(x[rj]) < signed(x[rk])`, else 0 (R125). -/
def execSlt (rd rj rk : RegNo) (s : State) : Out := gprResult rd (boolWord ((readGpr rj s).slt (readGpr rk s))) s

/-- SLTU: 1 if `unsigned(x[rj]) < unsigned(x[rk])`, else 0 (R126). -/
def execSltu (rd rj rk : RegNo) (s : State) : Out := gprResult rd (boolWord ((readGpr rj s).ult (readGpr rk s))) s

/-- SLTI: 1 if `signed(x[rj]) < signed(sext_32(si12))`, else 0 (R127). -/
def execSlti (rd rj : RegNo) (si12 : BitVec 12) (s : State) : Out :=
  gprResult rd (boolWord ((readGpr rj s).slt (sext12 si12))) s

/-- SLTUI: 1 if `unsigned(x[rj]) < unsigned(sext_32(si12))`, else 0 (R128). -/
def execSltui (rd rj : RegNo) (si12 : BitVec 12) (s : State) : Out :=
  gprResult rd (boolWord ((readGpr rj s).ult (sext12 si12))) s

/-- AND: `x[rd] <- x[rj] & x[rk]` (R130). -/
def execAnd (rd rj rk : RegNo) (s : State) : Out := gprResult rd (readGpr rj s &&& readGpr rk s) s

/-- OR: `x[rd] <- x[rj] | x[rk]` (R131). -/
def execOr (rd rj rk : RegNo) (s : State) : Out := gprResult rd (readGpr rj s ||| readGpr rk s) s

/-- NOR: `x[rd] <- ~(x[rj] | x[rk])` (R132). -/
def execNor (rd rj rk : RegNo) (s : State) : Out := gprResult rd (~~~(readGpr rj s ||| readGpr rk s)) s

/-- XOR: `x[rd] <- x[rj] ^ x[rk]` (R133). -/
def execXor (rd rj rk : RegNo) (s : State) : Out := gprResult rd (readGpr rj s ^^^ readGpr rk s) s

/-- ANDI: `x[rd] <- x[rj] & zext_32(ui12)` (R134). -/
def execAndi (rd rj : RegNo) (ui12 : BitVec 12) (s : State) : Out := gprResult rd (readGpr rj s &&& zext12 ui12) s

/-- ORI: `x[rd] <- x[rj] | zext_32(ui12)` (R135). -/
def execOri (rd rj : RegNo) (ui12 : BitVec 12) (s : State) : Out := gprResult rd (readGpr rj s ||| zext12 ui12) s

/-- XORI: `x[rd] <- x[rj] ^ zext_32(ui12)` (R136). -/
def execXori (rd rj : RegNo) (ui12 : BitVec 12) (s : State) : Out := gprResult rd (readGpr rj s ^^^ zext12 ui12) s

/-- NOP: `GR[r0] = GR[r0] & 0`, whose whole effect is `pc <- pc + 4` (R137). -/
def execNop (s : State) : Out := gprResult 0 (readGpr 0 s &&& 0) s

end Sys2Proof.Machine
end

