-- ==== Sys2Proof/Machine/LoadStore.lean ====
section
/-! DEFINITION. Integer loads, stores and prefetch (44_load_store.md), and floating-point loads and stores
(49_fp_move_branch_mem.md section 6), by the shared procedure (20_memory.md R80). -/

namespace Sys2Proof.Machine

/-- LD.B: `x[rd] <- sext_32(MemRead(vaddr, 1))` (R176). -/
def execLdB (rd rj : RegNo) (si12 : BitVec 12) (s : State) : Out :=
  loadAccess 1 (vaddr12 rj si12 s) (fun v => writeGpr rd ((BitVec.ofNat 8 v).signExtend 32)) s
/-- LD.H: `x[rd] <- sext_32(MemRead(vaddr, 2))` (R177). -/
def execLdH (rd rj : RegNo) (si12 : BitVec 12) (s : State) : Out :=
  loadAccess 2 (vaddr12 rj si12 s) (fun v => writeGpr rd ((BitVec.ofNat 16 v).signExtend 32)) s
/-- LD.W: `x[rd] <- MemRead(vaddr, 4)` (R178). -/
def execLdW (rd rj : RegNo) (si12 : BitVec 12) (s : State) : Out :=
  loadAccess 4 (vaddr12 rj si12 s) (fun v => writeGpr rd (BitVec.ofNat 32 v)) s
/-- LD.BU: `x[rd] <- zext_32(MemRead(vaddr, 1))` (R179). -/
def execLdBu (rd rj : RegNo) (si12 : BitVec 12) (s : State) : Out :=
  loadAccess 1 (vaddr12 rj si12 s) (fun v => writeGpr rd ((BitVec.ofNat 8 v).setWidth 32)) s
/-- LD.HU: `x[rd] <- zext_32(MemRead(vaddr, 2))` (R180). -/
def execLdHu (rd rj : RegNo) (si12 : BitVec 12) (s : State) : Out :=
  loadAccess 2 (vaddr12 rj si12 s) (fun v => writeGpr rd ((BitVec.ofNat 16 v).setWidth 32)) s

/-- ST.B: `MemWrite(vaddr, 1, x[rd][7:0])` (R181). -/
def execStB (rd rj : RegNo) (si12 : BitVec 12) (s : State) : Out :=
  storeAccess 1 (vaddr12 rj si12 s) (readGpr rd s).toNat s
/-- ST.H: `MemWrite(vaddr, 2, x[rd][15:0])` (R182). -/
def execStH (rd rj : RegNo) (si12 : BitVec 12) (s : State) : Out :=
  storeAccess 2 (vaddr12 rj si12 s) (readGpr rd s).toNat s
/-- ST.W: `MemWrite(vaddr, 4, x[rd])` (R183). -/
def execStW (rd rj : RegNo) (si12 : BitVec 12) (s : State) : Out :=
  storeAccess 4 (vaddr12 rj si12 s) (readGpr rd s).toNat s

/-- PRELD: nothing but `pc <- pc + 4`, whatever the hint and the address (R184). -/
def execPreld (_hint : BitVec 5) (_rj : RegNo) (_si12 : BitVec 12) (s : State) : Out := .next (advance s)

/-- FLD.S: `f[fd][31:0] <- MemRead(vaddr, 4)`, bits 63:32 `any_32()` (49_fp_move_branch_mem.md R337). -/
def execFldS (fd : FprNo) (rj : RegNo) (si12 : BitVec 12) (s : State) : Out :=
  loadAccess 4 (vaddr12 rj si12 s) (fun v => writeFprLow fd (BitVec.ofNat 32 v)) s
/-- FLD.D: `f[fd] <- MemRead(vaddr, 8)` (49_fp_move_branch_mem.md R338). -/
def execFldD (fd : FprNo) (rj : RegNo) (si12 : BitVec 12) (s : State) : Out :=
  loadAccess 8 (vaddr12 rj si12 s) (fun v => writeFpr fd (BitVec.ofNat 64 v)) s
/-- FST.S: `MemWrite(vaddr, 4, f[fd][31:0])` (49_fp_move_branch_mem.md R339). -/
def execFstS (fd : FprNo) (rj : RegNo) (si12 : BitVec 12) (s : State) : Out :=
  storeAccess 4 (vaddr12 rj si12 s) (readFprLow fd s).toNat s
/-- FST.D: `MemWrite(vaddr, 8, f[fd])` (49_fp_move_branch_mem.md R340). -/
def execFstD (fd : FprNo) (rj : RegNo) (si12 : BitVec 12) (s : State) : Out :=
  storeAccess 8 (vaddr12 rj si12 s) (readFpr fd s).toNat s

end Sys2Proof.Machine
end

