-- ==== Sys2Proof/Machine/MulDiv.lean ====
section
/-! DEFINITION. Integer multiply and divide (41_int_muldiv.md): exact integer arithmetic, then the stated bits. -/

namespace Sys2Proof.Machine

/-- `product[31:0]`. -/
def productLow (p : Int) : Word := BitVec.ofInt 32 p

/-- `product[63:32]` of the product as a 64-bit two's-complement value. -/
def productHigh (p : Int) : Word := (BitVec.ofInt 64 p).extractLsb' 32 32

/-- A quotient or remainder, or `any_32()` where the divisor is 0 (R148). -/
def divisionResult (rd rk : RegNo) (v : Int) (s : State) : Out :=
  if readGpr rk s = 0 then gprDraw rd s else gprResult rd (BitVec.ofInt 32 v) s

/-- MUL.W (R141). -/
def execMulW (rd rj rk : RegNo) (s : State) : Out :=
  gprResult rd (productLow ((readGpr rj s).toInt * (readGpr rk s).toInt)) s

/-- MULH.W (R142). -/
def execMulhW (rd rj rk : RegNo) (s : State) : Out :=
  gprResult rd (productHigh ((readGpr rj s).toInt * (readGpr rk s).toInt)) s

/-- MULH.WU (R143). -/
def execMulhWu (rd rj rk : RegNo) (s : State) : Out :=
  gprResult rd (productHigh ((readGpr rj s).toNat * (readGpr rk s).toNat : Nat)) s

/-- DIV.W: the quotient rounded toward zero (R144, R149). -/
def execDivW (rd rj rk : RegNo) (s : State) : Out :=
  divisionResult rd rk (Int.tdiv (readGpr rj s).toInt (readGpr rk s).toInt) s

/-- MOD.W: the remainder of that quotient, with the sign of the dividend (R145, R149). -/
def execModW (rd rj rk : RegNo) (s : State) : Out :=
  divisionResult rd rk (Int.tmod (readGpr rj s).toInt (readGpr rk s).toInt) s

/-- DIV.WU (R146). -/
def execDivWu (rd rj rk : RegNo) (s : State) : Out :=
  divisionResult rd rk ((readGpr rj s).toNat / (readGpr rk s).toNat : Nat) s

/-- MOD.WU (R147). -/
def execModWu (rd rj rk : RegNo) (s : State) : Out :=
  divisionResult rd rk ((readGpr rj s).toNat % (readGpr rk s).toNat : Nat) s

end Sys2Proof.Machine
end

