-- ==== Sys2Proof/Machine/Shift.lean ====
section
/-! DEFINITION. Shifts (42_int_shift.md). The amount is always 5 bits (R150). -/

namespace Sys2Proof.Machine

/-- `SLL(v, n)[31:0]` (R150). -/
def sll (v : Word) (n : BitVec 5) : Word := v <<< n.toNat
/-- `SRL(v, n)` (R150). -/
def srl (v : Word) (n : BitVec 5) : Word := v >>> n.toNat
/-- `SRA(v, n)` (R150). -/
def sra (v : Word) (n : BitVec 5) : Word := v.sshiftRight n.toNat

/-- `x[rk][4:0]` (R150). -/
def shiftAmount (rk : RegNo) (s : State) : BitVec 5 := (readGpr rk s).extractLsb' 0 5

/-- SLL.W (R151). -/
def execSllW (rd rj rk : RegNo) (s : State) : Out := gprResult rd (sll (readGpr rj s) (shiftAmount rk s)) s
/-- SRL.W (R152). -/
def execSrlW (rd rj rk : RegNo) (s : State) : Out := gprResult rd (srl (readGpr rj s) (shiftAmount rk s)) s
/-- SRA.W (R153). -/
def execSraW (rd rj rk : RegNo) (s : State) : Out := gprResult rd (sra (readGpr rj s) (shiftAmount rk s)) s
/-- SLLI.W (R154). -/
def execSlliW (rd rj : RegNo) (ui5 : BitVec 5) (s : State) : Out := gprResult rd (sll (readGpr rj s) ui5) s
/-- SRLI.W (R155). -/
def execSrliW (rd rj : RegNo) (ui5 : BitVec 5) (s : State) : Out := gprResult rd (srl (readGpr rj s) ui5) s
/-- SRAI.W (R156). -/
def execSraiW (rd rj : RegNo) (ui5 : BitVec 5) (s : State) : Out := gprResult rd (sra (readGpr rj s) ui5) s

end Sys2Proof.Machine
end

