-- ==== Sys2Proof/Machine/System.lean ====
section
/-! DEFINITION. System call, breakpoint, counter reads and the privileged instructions (46_system_privileged.md). -/

namespace Sys2Proof.Machine

/-- SYSCALL: `raise SYS(code)` at every privilege level (R200). -/
def execSyscall (code : BitVec 15) (s : State) : Out := raise (.sys code) s
/-- BREAK: `raise BRK(code)` at every privilege level (R201). -/
def execBrk (code : BitVec 15) (s : State) : Out := raise (.brk code) s

/-- RDCNTVL.W: `x[rd] <- any_32()` (R202, R203). -/
def execRdcntvlW (rd : RegNo) (s : State) : Out := gprDraw rd s
/-- RDCNTVH.W: `x[rd] <- any_32()` (R202, R204). -/
def execRdcntvhW (rd : RegNo) (s : State) : Out := gprDraw rd s
/-- RDCNTID: `x[rj] <- COUNTER_ID` (R205). -/
def execRdcntid (rj : RegNo) (s : State) : Out := gprResult rj Config.counterId s

/-- CSRRD (R207, R208). -/
def execCsrrd (rd : RegNo) (csr : BitVec 14) (s : State) : Out := privilegedOnly (.csrrd rd csr) s
/-- CSRWR (R207, R209). -/
def execCsrwr (rd : RegNo) (csr : BitVec 14) (s : State) : Out := privilegedOnly (.csrwr rd csr) s
/-- CSRXCHG (R207, R210). -/
def execCsrxchg (rd rj : RegNo) (csr : BitVec 14) (s : State) : Out := privilegedOnly (.csrxchg rd rj csr) s
/-- CACOP: refused at both privilege levels (R207, R211). -/
def execCacop (code : BitVec 5) (rj : RegNo) (si12 : BitVec 12) (_s : State) : Out :=
  .refused (.noSemantics (encode (.cacop code rj si12)))
/-- TLBSRCH (R207, R212). -/
def execTlbsrch (s : State) : Out := privilegedOnly .tlbsrch s
/-- TLBRD (R207, R213). -/
def execTlbrd (s : State) : Out := privilegedOnly .tlbrd s
/-- TLBWR (R207, R214). -/
def execTlbwr (s : State) : Out := privilegedOnly .tlbwr s
/-- TLBFILL (R207, R215). -/
def execTlbfill (s : State) : Out := privilegedOnly .tlbfill s
/-- ERTN (R207, R216). -/
def execErtn (s : State) : Out := privilegedOnly .ertn s
/-- IDLE (R207, R217). -/
def execIdle (level : BitVec 15) (s : State) : Out := privilegedOnly (.idle level) s
/-- INVTLB (R207, R218). -/
def execInvtlb (op : BitVec 5) (rj rk : RegNo) (s : State) : Out := privilegedOnly (.invtlb op rj rk) s

end Sys2Proof.Machine
end

