-- ==== Sys2Proof/Machine/Fetch.lean ====
section
/-! DEFINITION. The stages of a step before execution (20_memory.md R67, 60_exceptions.md R373). -/

namespace Sys2Proof.Machine

/-- The instruction word at an address (20_memory.md R62). -/
def instrWordAt (a : Word) (s : State) : Word := BitVec.ofNat 32 (memRead 4 a s)

/-- The fetch at `pc` (20_memory.md R67 steps 1 to 3): ADEF, then the refusals, then the word. R67 (2) gives the two refusals no
order. DESIGN CHOICE, log 30: a word with a byte outside MEM_MAP and another one in `dirty` is refused as unmapped. Safe. -/
def fetch (s : State) (decoded : Word → Out) : Out :=
  if s.pc.toNat % 4 ≠ 0 then raise (.adef s.pc) s
  else if !mappedRange 4 s.pc s then .refused (.unmapped s.pc)
  else if dirtyRange 4 s.pc s then .refused (.staleFetch s.pc)
  else decoded (instrWordAt s.pc s)

/-- Decoding and running a word (20_memory.md R67 steps 4 to 6); the meaning of a privileged instruction makes the check of
step 5 itself. -/
def runWord (run : Instr → State → Out) (w : Word) (s : State) : Out :=
  match decode w with
  | .ok i => run i s
  | .undefinedOpcode => raise (.ine w) s
  | .reservedField => .refused (.reservedField w)

/-- The fetch-and-execute step (20_memory.md R67). -/
def fetchAndRun (run : Instr → State → Out) (s : State) : Out := fetch s (fun w => runWord run w s)

/-- The state with a word placed where it will be fetched: at `pc` (aligned, mapped and not dirty). -/
def placeWord (w : Word) (s : State) : State :=
  let pc := s.pc &&& 0xFFFFFFFC#32
  { s with
    pc := pc
    mem := s.mem.write 4 pc w.toNat
    memMap := if mappedRange 4 pc s then s.memMap else { base := pc.toNat, size := 4, mat := .cc } :: s.memMap
    dirty := s.dirty.filter (fun a => decide (a < pc.toNat ∨ pc.toNat + 4 ≤ a)) }

end Sys2Proof.Machine
end

