-- ==== Sys2Proof/Machine/Step.lean ====
section
/-! DEFINITION. One step (20_memory.md R67), after what the environment may do at the instruction boundary
(45_atomic_barrier.md R192). -/

namespace Sys2Proof.Machine

/-- One step: the boundary, then fetch, decode and execute. -/
def step (s : State) : Host.Outcome State Fault Refusal := fetchAndRun exec (boundary s)

/-- The state with the instruction of `nbits` bits `w` placed at `pc` (log 22). -/
def State.withFetchWord (s : State) (nbits w : Nat) : State := placeWord (BitVec.ofNat 32 (w % 2 ^ nbits)) s

end Sys2Proof.Machine
end

