-- ==== Sys2Proof/Safety.lean ====
section
/-! DEFINITION. The terms the claims use: what a good state is, what a step leaves unchanged, and the shapes of a completed
instruction. -/

namespace Sys2Proof.Machine

/-! ### Good states -/

/-- The invariant of the machine: r0 is 0 (10_state.md R21), the reserved bits of fcsr0 are 0 (R42), memory is in its canonical
form, and `dirty` is a set of addresses of MEM_MAP in its canonical form (20_memory.md R77). -/
structure Inv (s : State) : Prop where
  zeroRegister : s.x[0] = 0
  reservedBits : s.fcsr0 &&& ~~~fcsrWritable = 0
  memory : s.mem.wf
  dirtySorted : s.dirty.Pairwise (· < ·)
  dirtyMapped : ∀ a ∈ s.dirty, a < 2 ^ 32 ∧ mapped (BitVec.ofNat 32 a) s = true

/-- The state a trap carries. -/
def Fault.state : Fault → State
  | .sys _ s | .brk _ s | .ine _ s | .ipe _ s | .adef _ s | .ale _ s | .fpe _ s => s

/-- A step that ends in a next state. -/
def Completes (o : Out) : Prop := ∃ t, o = .next t

/-! ### The opcode table (30_encoding.md R104) -/

/-- A row of the table: the word `mtch` on the bits of `mask` is the instruction; `opcodeMask` marks the bits of `mask` that are
opcode, the others being constant operand bits (R105, R106). -/
structure OpcodeRow where
  opcodeMask : Word
  mtch : Word
  mask : Word
deriving DecidableEq, Repr

/-- The rows of 40_int_arith_logic.md. -/
def rowsInt : List OpcodeRow := [
  ⟨0xFFFF8000, 0x00100000, 0xFFFF8000⟩, -- ADD.W
  ⟨0xFFFF8000, 0x00110000, 0xFFFF8000⟩, -- SUB.W
  ⟨0xFFFF8000, 0x00120000, 0xFFFF8000⟩, -- SLT
  ⟨0xFFFF8000, 0x00128000, 0xFFFF8000⟩, -- SLTU
  ⟨0xFFFF8000, 0x00140000, 0xFFFF8000⟩, -- NOR
  ⟨0xFFFF8000, 0x00148000, 0xFFFF8000⟩, -- AND
  ⟨0xFFFF8000, 0x00150000, 0xFFFF8000⟩, -- OR
  ⟨0xFFFF8000, 0x00158000, 0xFFFF8000⟩, -- XOR
  ⟨0xFFC00000, 0x02000000, 0xFFC00000⟩, -- SLTI
  ⟨0xFFC00000, 0x02400000, 0xFFC00000⟩, -- SLTUI
  ⟨0xFFC00000, 0x02800000, 0xFFC00000⟩, -- ADDI.W
  ⟨0xFFC00000, 0x03400000, 0xFFC00000⟩, -- ANDI
  ⟨0xFFC00000, 0x03800000, 0xFFC00000⟩, -- ORI
  ⟨0xFFC00000, 0x03C00000, 0xFFC00000⟩, -- XORI
  ⟨0xFE000000, 0x14000000, 0xFE000000⟩, -- LU12I.W
  ⟨0xFE000000, 0x1C000000, 0xFE000000⟩] -- PCADDU12I

/-- The rows of 41_int_muldiv.md. -/
def rowsMulDiv : List OpcodeRow := [
  ⟨0xFFFF8000, 0x001C0000, 0xFFFF8000⟩, -- MUL.W
  ⟨0xFFFF8000, 0x001C8000, 0xFFFF8000⟩, -- MULH.W
  ⟨0xFFFF8000, 0x001D0000, 0xFFFF8000⟩, -- MULH.WU
  ⟨0xFFFF8000, 0x00200000, 0xFFFF8000⟩, -- DIV.W
  ⟨0xFFFF8000, 0x00208000, 0xFFFF8000⟩, -- MOD.W
  ⟨0xFFFF8000, 0x00210000, 0xFFFF8000⟩, -- DIV.WU
  ⟨0xFFFF8000, 0x00218000, 0xFFFF8000⟩] -- MOD.WU

/-- The rows of 42_int_shift.md. -/
def rowsShift : List OpcodeRow := [
  ⟨0xFFFF8000, 0x00170000, 0xFFFF8000⟩, -- SLL.W
  ⟨0xFFFF8000, 0x00178000, 0xFFFF8000⟩, -- SRL.W
  ⟨0xFFFF8000, 0x00180000, 0xFFFF8000⟩, -- SRA.W
  ⟨0xFFFF8000, 0x00408000, 0xFFFF8000⟩, -- SLLI.W
  ⟨0xFFFF8000, 0x00448000, 0xFFFF8000⟩, -- SRLI.W
  ⟨0xFFFF8000, 0x00488000, 0xFFFF8000⟩] -- SRAI.W

/-- The rows of 43_branch.md. -/
def rowsBranch : List OpcodeRow := [
  ⟨0xFC000000, 0x4C000000, 0xFC000000⟩, -- JIRL
  ⟨0xFC000000, 0x50000000, 0xFC000000⟩, -- B
  ⟨0xFC000000, 0x54000000, 0xFC000000⟩, -- BL
  ⟨0xFC000000, 0x58000000, 0xFC000000⟩, -- BEQ
  ⟨0xFC000000, 0x5C000000, 0xFC000000⟩, -- BNE
  ⟨0xFC000000, 0x60000000, 0xFC000000⟩, -- BLT
  ⟨0xFC000000, 0x64000000, 0xFC000000⟩, -- BGE
  ⟨0xFC000000, 0x68000000, 0xFC000000⟩, -- BLTU
  ⟨0xFC000000, 0x6C000000, 0xFC000000⟩] -- BGEU

/-- The rows of 44_load_store.md. -/
def rowsLoadStore : List OpcodeRow := [
  ⟨0xFFC00000, 0x28000000, 0xFFC00000⟩, -- LD.B
  ⟨0xFFC00000, 0x28400000, 0xFFC00000⟩, -- LD.H
  ⟨0xFFC00000, 0x28800000, 0xFFC00000⟩, -- LD.W
  ⟨0xFFC00000, 0x29000000, 0xFFC00000⟩, -- ST.B
  ⟨0xFFC00000, 0x29400000, 0xFFC00000⟩, -- ST.H
  ⟨0xFFC00000, 0x29800000, 0xFFC00000⟩, -- ST.W
  ⟨0xFFC00000, 0x2A000000, 0xFFC00000⟩, -- LD.BU
  ⟨0xFFC00000, 0x2A400000, 0xFFC00000⟩, -- LD.HU
  ⟨0xFFC00000, 0x2AC00000, 0xFFC00000⟩] -- PRELD

/-- The rows of 45_atomic_barrier.md. -/
def rowsAtomic : List OpcodeRow := [
  ⟨0xFF000000, 0x20000000, 0xFF000000⟩, -- LL.W
  ⟨0xFF000000, 0x21000000, 0xFF000000⟩, -- SC.W
  ⟨0xFFFF8000, 0x38720000, 0xFFFF8000⟩, -- DBAR
  ⟨0xFFFF8000, 0x38728000, 0xFFFF8000⟩] -- IBAR

/-- The rows of 46_system_privileged.md. -/
def rowsSystem : List OpcodeRow := [
  ⟨0xFFFFFC00, 0x00006000, 0xFFFFFC1F⟩, -- RDCNTID
  ⟨0xFFFFFC00, 0x00006000, 0xFFFFFFE0⟩, -- RDCNTVL.W
  ⟨0xFFFFFC00, 0x00006400, 0xFFFFFFE0⟩, -- RDCNTVH.W
  ⟨0xFFFF8000, 0x002A0000, 0xFFFF8000⟩, -- BREAK
  ⟨0xFFFF8000, 0x002B0000, 0xFFFF8000⟩, -- SYSCALL
  ⟨0xFF000000, 0x04000000, 0xFF0003E0⟩, -- CSRRD
  ⟨0xFF000000, 0x04000020, 0xFF0003E0⟩, -- CSRWR
  ⟨0xFF000000, 0x04000000, 0xFF000000⟩, -- CSRXCHG
  ⟨0xFFC00000, 0x06000000, 0xFFC00000⟩, -- CACOP
  ⟨0xFFFFFC00, 0x06482800, 0xFFFFFFFF⟩, -- TLBSRCH
  ⟨0xFFFFFC00, 0x06482C00, 0xFFFFFFFF⟩, -- TLBRD
  ⟨0xFFFFFC00, 0x06483000, 0xFFFFFFFF⟩, -- TLBWR
  ⟨0xFFFFFC00, 0x06483400, 0xFFFFFFFF⟩, -- TLBFILL
  ⟨0xFFFFFC00, 0x06483800, 0xFFFFFFFF⟩, -- ERTN
  ⟨0xFFFF8000, 0x06488000, 0xFFFF8000⟩, -- IDLE
  ⟨0xFFFF8000, 0x06498000, 0xFFFF8000⟩] -- INVTLB

/-- The rows of 47_fp_arith.md. -/
def rowsFpArith : List OpcodeRow := [
  ⟨0xFFFF8000, 0x01008000, 0xFFFF8000⟩, -- FADD.S
  ⟨0xFFFF8000, 0x01010000, 0xFFFF8000⟩, -- FADD.D
  ⟨0xFFFF8000, 0x01028000, 0xFFFF8000⟩, -- FSUB.S
  ⟨0xFFFF8000, 0x01030000, 0xFFFF8000⟩, -- FSUB.D
  ⟨0xFFFF8000, 0x01048000, 0xFFFF8000⟩, -- FMUL.S
  ⟨0xFFFF8000, 0x01050000, 0xFFFF8000⟩, -- FMUL.D
  ⟨0xFFFF8000, 0x01068000, 0xFFFF8000⟩, -- FDIV.S
  ⟨0xFFFF8000, 0x01070000, 0xFFFF8000⟩, -- FDIV.D
  ⟨0xFFFF8000, 0x01088000, 0xFFFF8000⟩, -- FMAX.S
  ⟨0xFFFF8000, 0x01090000, 0xFFFF8000⟩, -- FMAX.D
  ⟨0xFFFF8000, 0x010A8000, 0xFFFF8000⟩, -- FMIN.S
  ⟨0xFFFF8000, 0x010B0000, 0xFFFF8000⟩, -- FMIN.D
  ⟨0xFFFF8000, 0x010C8000, 0xFFFF8000⟩, -- FMAXA.S
  ⟨0xFFFF8000, 0x010D0000, 0xFFFF8000⟩, -- FMAXA.D
  ⟨0xFFFF8000, 0x010E8000, 0xFFFF8000⟩, -- FMINA.S
  ⟨0xFFFF8000, 0x010F0000, 0xFFFF8000⟩, -- FMINA.D
  ⟨0xFFFF8000, 0x01128000, 0xFFFF8000⟩, -- FCOPYSIGN.S
  ⟨0xFFFF8000, 0x01130000, 0xFFFF8000⟩, -- FCOPYSIGN.D
  ⟨0xFFFFFC00, 0x01140400, 0xFFFFFC00⟩, -- FABS.S
  ⟨0xFFFFFC00, 0x01140800, 0xFFFFFC00⟩, -- FABS.D
  ⟨0xFFFFFC00, 0x01141400, 0xFFFFFC00⟩, -- FNEG.S
  ⟨0xFFFFFC00, 0x01141800, 0xFFFFFC00⟩, -- FNEG.D
  ⟨0xFFFFFC00, 0x01143400, 0xFFFFFC00⟩, -- FCLASS.S
  ⟨0xFFFFFC00, 0x01143800, 0xFFFFFC00⟩, -- FCLASS.D
  ⟨0xFFFFFC00, 0x01144400, 0xFFFFFC00⟩, -- FSQRT.S
  ⟨0xFFFFFC00, 0x01144800, 0xFFFFFC00⟩, -- FSQRT.D
  ⟨0xFFFFFC00, 0x01145400, 0xFFFFFC00⟩, -- FRECIP.S
  ⟨0xFFFFFC00, 0x01145800, 0xFFFFFC00⟩, -- FRECIP.D
  ⟨0xFFFFFC00, 0x01146400, 0xFFFFFC00⟩, -- FRSQRT.S
  ⟨0xFFFFFC00, 0x01146800, 0xFFFFFC00⟩, -- FRSQRT.D
  ⟨0xFFF00000, 0x08100000, 0xFFF00000⟩, -- FMADD.S
  ⟨0xFFF00000, 0x08200000, 0xFFF00000⟩, -- FMADD.D
  ⟨0xFFF00000, 0x08500000, 0xFFF00000⟩, -- FMSUB.S
  ⟨0xFFF00000, 0x08600000, 0xFFF00000⟩, -- FMSUB.D
  ⟨0xFFF00000, 0x08900000, 0xFFF00000⟩, -- FNMADD.S
  ⟨0xFFF00000, 0x08A00000, 0xFFF00000⟩, -- FNMADD.D
  ⟨0xFFF00000, 0x08D00000, 0xFFF00000⟩, -- FNMSUB.S
  ⟨0xFFF00000, 0x08E00000, 0xFFF00000⟩] -- FNMSUB.D

/-- The rows of 48_fp_cmp_cvt.md. -/
def rowsFpCompare : List OpcodeRow := [
  ⟨0xFFFFFC00, 0x01191800, 0xFFFFFC00⟩, -- FCVT.S.D
  ⟨0xFFFFFC00, 0x01192400, 0xFFFFFC00⟩, -- FCVT.D.S
  ⟨0xFFFFFC00, 0x011A0400, 0xFFFFFC00⟩, -- FTINTRM.W.S
  ⟨0xFFFFFC00, 0x011A0800, 0xFFFFFC00⟩, -- FTINTRM.W.D
  ⟨0xFFFFFC00, 0x011A4400, 0xFFFFFC00⟩, -- FTINTRP.W.S
  ⟨0xFFFFFC00, 0x011A4800, 0xFFFFFC00⟩, -- FTINTRP.W.D
  ⟨0xFFFFFC00, 0x011A8400, 0xFFFFFC00⟩, -- FTINTRZ.W.S
  ⟨0xFFFFFC00, 0x011A8800, 0xFFFFFC00⟩, -- FTINTRZ.W.D
  ⟨0xFFFFFC00, 0x011AC400, 0xFFFFFC00⟩, -- FTINTRNE.W.S
  ⟨0xFFFFFC00, 0x011AC800, 0xFFFFFC00⟩, -- FTINTRNE.W.D
  ⟨0xFFFFFC00, 0x011B0400, 0xFFFFFC00⟩, -- FTINT.W.S
  ⟨0xFFFFFC00, 0x011B0800, 0xFFFFFC00⟩, -- FTINT.W.D
  ⟨0xFFFFFC00, 0x011D1000, 0xFFFFFC00⟩, -- FFINT.S.W
  ⟨0xFFFFFC00, 0x011D2000, 0xFFFFFC00⟩, -- FFINT.D.W
  ⟨0xFFF00000, 0x0C100000, 0xFFF00018⟩, -- FCMP.cond.S
  ⟨0xFFF00000, 0x0C200000, 0xFFF00018⟩] -- FCMP.cond.D

/-- The rows of 49_fp_move_branch_mem.md. -/
def rowsFpMove : List OpcodeRow := [
  ⟨0xFFFFFC00, 0x01149400, 0xFFFFFC00⟩, -- FMOV.S
  ⟨0xFFFFFC00, 0x01149800, 0xFFFFFC00⟩, -- FMOV.D
  ⟨0xFFFFFC00, 0x0114A400, 0xFFFFFC00⟩, -- MOVGR2FR.W
  ⟨0xFFFFFC00, 0x0114AC00, 0xFFFFFC00⟩, -- MOVGR2FRH.W
  ⟨0xFFFFFC00, 0x0114B400, 0xFFFFFC00⟩, -- MOVFR2GR.S
  ⟨0xFFFFFC00, 0x0114BC00, 0xFFFFFC00⟩, -- MOVFRH2GR.S
  ⟨0xFFFFFC00, 0x0114C000, 0xFFFFFC00⟩, -- MOVGR2FCSR
  ⟨0xFFFFFC00, 0x0114C800, 0xFFFFFC00⟩, -- MOVFCSR2GR
  ⟨0xFFFFFC00, 0x0114D000, 0xFFFFFC18⟩, -- MOVFR2CF
  ⟨0xFFFFFC00, 0x0114D400, 0xFFFFFF00⟩, -- MOVCF2FR
  ⟨0xFFFFFC00, 0x0114D800, 0xFFFFFC18⟩, -- MOVGR2CF
  ⟨0xFFFFFC00, 0x0114DC00, 0xFFFFFF00⟩, -- MOVCF2GR
  ⟨0xFFF00000, 0x0D000000, 0xFFFC0000⟩, -- FSEL
  ⟨0xFFC00000, 0x2B000000, 0xFFC00000⟩, -- FLD.S
  ⟨0xFFC00000, 0x2B400000, 0xFFC00000⟩, -- FST.S
  ⟨0xFFC00000, 0x2B800000, 0xFFC00000⟩, -- FLD.D
  ⟨0xFFC00000, 0x2BC00000, 0xFFC00000⟩, -- FST.D
  ⟨0xFC000300, 0x48000000, 0xFC000300⟩, -- BCEQZ
  ⟨0xFC000300, 0x48000100, 0xFC000300⟩] -- BCNEZ

/-- The 140 rows. -/
def opcodeRows : List OpcodeRow :=
  rowsInt ++ rowsMulDiv ++ rowsShift ++ rowsBranch ++ rowsLoadStore ++
  rowsAtomic ++ rowsSystem ++ rowsFpArith ++ rowsFpCompare ++ rowsFpMove

/-- Every word with these bits under the 3R mask is the instruction with `w[4:0]`, `w[9:5]` and `w[14:10]` (R94), also the 2RI5
format (R102). -/
def Row3R (mtch : Word) (i : BitVec 5 → BitVec 5 → BitVec 5 → Instr) : Prop :=
  ∀ w : Word, w &&& 0xFFFF8000#32 = mtch → decode w = .ok (i (w.extractLsb' 0 5) (w.extractLsb' 5 5) (w.extractLsb' 10 5))
/-- The same for format 2R (R93). -/
def Row2R (mtch : Word) (i : BitVec 5 → BitVec 5 → Instr) : Prop :=
  ∀ w : Word, w &&& 0xFFFFFC00#32 = mtch → decode w = .ok (i (w.extractLsb' 0 5) (w.extractLsb' 5 5))
/-- The same for format 4R (R95). -/
def Row4R (mtch : Word) (i : BitVec 5 → BitVec 5 → BitVec 5 → BitVec 5 → Instr) : Prop :=
  ∀ w : Word, w &&& 0xFFF00000#32 = mtch →
    decode w = .ok (i (w.extractLsb' 0 5) (w.extractLsb' 5 5) (w.extractLsb' 10 5) (w.extractLsb' 15 5))
/-- The same for format 2RI12 (R97). -/
def Row2RI12 (mtch : Word) (i : BitVec 5 → BitVec 5 → BitVec 12 → Instr) : Prop :=
  ∀ w : Word, w &&& 0xFFC00000#32 = mtch →
    decode w = .ok (i (w.extractLsb' 0 5) (w.extractLsb' 5 5) (w.extractLsb' 10 12))
/-- The same for format 2RI14 (R98). -/
def Row2RI14 (mtch : Word) (i : BitVec 5 → BitVec 5 → BitVec 14 → Instr) : Prop :=
  ∀ w : Word, w &&& 0xFF000000#32 = mtch →
    decode w = .ok (i (w.extractLsb' 0 5) (w.extractLsb' 5 5) (w.extractLsb' 10 14))
/-- The same for format 2RI16 (R99). -/
def Row2RI16 (mtch : Word) (i : BitVec 5 → BitVec 5 → BitVec 16 → Instr) : Prop :=
  ∀ w : Word, w &&& 0xFC000000#32 = mtch →
    decode w = .ok (i (w.extractLsb' 0 5) (w.extractLsb' 5 5) (w.extractLsb' 10 16))
/-- The same for format 1RI21 with a flag number (R100): the offset is `w[4:0]` over `w[25:10]`. -/
def Row1RI21 (mtch : Word) (i : BitVec 3 → BitVec 21 → Instr) : Prop :=
  ∀ w : Word, w &&& 0xFC000300#32 = mtch →
    decode w = .ok (i (w.extractLsb' 5 3) (w.extractLsb' 0 5 ++ w.extractLsb' 10 16 : BitVec (5 + 16)))
/-- The same for format I26 (R101): the offset is `w[9:0]` over `w[25:10]`. -/
def RowI26 (mtch : Word) (i : BitVec 26 → Instr) : Prop :=
  ∀ w : Word, w &&& 0xFC000000#32 = mtch →
    decode w = .ok (i (w.extractLsb' 0 10 ++ w.extractLsb' 10 16 : BitVec (10 + 16)))
/-- The same for format 1RI20 (R102). -/
def Row1RI20 (mtch : Word) (i : BitVec 5 → BitVec 20 → Instr) : Prop :=
  ∀ w : Word, w &&& 0xFE000000#32 = mtch → decode w = .ok (i (w.extractLsb' 0 5) (w.extractLsb' 5 20))
/-- The same for format CODE15 (R102). -/
def RowCode15 (mtch : Word) (i : BitVec 15 → Instr) : Prop :=
  ∀ w : Word, w &&& 0xFFFF8000#32 = mtch → decode w = .ok (i (w.extractLsb' 0 15))
/-- The same for format FCMP (R102): `cond`, `cd`, `fj`, `fk`. -/
def RowFcmp (mtch : Word) (i : BitVec 5 → BitVec 3 → BitVec 5 → BitVec 5 → Instr) : Prop :=
  ∀ w : Word, w &&& 0xFFF00018#32 = mtch →
    decode w = .ok (i (w.extractLsb' 15 5) (w.extractLsb' 0 3) (w.extractLsb' 5 5) (w.extractLsb' 10 5))
/-- The same for format 2R with a flag number written in `w[2:0]` (R102). -/
def RowToFlag (mtch : Word) (i : BitVec 3 → BitVec 5 → Instr) : Prop :=
  ∀ w : Word, w &&& 0xFFFFFC18#32 = mtch → decode w = .ok (i (w.extractLsb' 0 3) (w.extractLsb' 5 5))
/-- The same for format 2R with a flag number read in `w[7:5]` (R102). -/
def RowFromFlag (mtch : Word) (i : BitVec 5 → BitVec 3 → Instr) : Prop :=
  ∀ w : Word, w &&& 0xFFFFFF00#32 = mtch → decode w = .ok (i (w.extractLsb' 0 5) (w.extractLsb' 5 3))

/-! ### Kinds of instructions -/

/-- The ten privileged instructions (60_exceptions.md R372). PRESUMED, log 17. -/
def privileged : Instr → Bool
  | .csrrd .. | .csrwr .. | .csrxchg .. | .tlbsrch | .tlbrd | .tlbwr | .tlbfill | .ertn | .idle .. | .invtlb .. => true
  | _ => false

/-- The instructions of 40_int_arith_logic.md to 46_system_privileged.md: all but the floating-point ones. -/
def integerOnly : Instr → Bool
  | .addW .. | .subW .. | .slt .. | .sltu .. | .nor .. | .and .. | .or .. | .xor .. | .slti .. | .sltui .. | .addiW ..
  | .andi .. | .ori .. | .xori .. | .lu12iW .. | .pcaddu12i .. | .nop | .mulW .. | .mulhW .. | .mulhWu .. | .divW ..
  | .modW .. | .divWu .. | .modWu .. | .sllW .. | .srlW .. | .sraW .. | .slliW .. | .srliW .. | .sraiW .. | .jirl ..
  | .b .. | .bl .. | .beq .. | .bne .. | .blt .. | .bge .. | .bltu .. | .bgeu .. | .ldB .. | .ldH .. | .ldW .. | .stB ..
  | .stH .. | .stW .. | .ldBu .. | .ldHu .. | .preld .. | .llW .. | .scW .. | .dbar .. | .ibar .. | .rdcntid ..
  | .rdcntvlW .. | .rdcntvhW .. | .brk .. | .syscall .. | .csrrd .. | .csrwr .. | .csrxchg .. | .cacop .. | .tlbsrch
  | .tlbrd | .tlbwr | .tlbfill | .ertn | .idle .. | .invtlb .. => true
  | _ => false

/-- The branches and jumps: the instructions whose pseudocode assigns the pc (00_scope.md R12). -/
def assignsPc : Instr → Bool
  | .jirl .. | .b .. | .bl .. | .beq .. | .bne .. | .blt .. | .bge .. | .bltu .. | .bgeu .. | .bceqz .. | .bcnez .. => true
  | _ => false

/-- JIRL. -/
def isJirl : Instr → Bool
  | .jirl .. => true
  | _ => false

/-- The writers of a condition flag (10_state.md R35). -/
def writesFlag : Instr → Bool
  | .fcmpS .. | .fcmpD .. | .movfr2cf .. | .movgr2cf .. => true
  | _ => false

/-- MOVGR2FCSR. -/
def writesFcsrField : Instr → Bool
  | .movgr2fcsr .. => true
  | _ => false

/-- The instructions that run the procedure of 47_fp_arith.md R233 (60_exceptions.md R369). -/
def runsR233 : Instr → Bool
  | .faddS .. | .faddD .. | .fsubS .. | .fsubD .. | .fmulS .. | .fmulD .. | .fdivS .. | .fdivD .. | .fmaddS .. | .fmaddD ..
  | .fmsubS .. | .fmsubD .. | .fnmaddS .. | .fnmaddD .. | .fnmsubS .. | .fnmsubD .. | .fmaxS .. | .fmaxD .. | .fminS ..
  | .fminD .. | .fmaxaS .. | .fmaxaD .. | .fminaS .. | .fminaD .. | .fsqrtS .. | .fsqrtD .. | .frecipS .. | .frecipD ..
  | .frsqrtS .. | .frsqrtD .. | .fcmpS .. | .fcmpD .. | .fcvtSD .. | .fcvtDS .. | .ffintSW .. | .ffintDW .. | .ftintWS ..
  | .ftintWD .. | .ftintrmWS .. | .ftintrmWD .. | .ftintrpWS .. | .ftintrpWD .. | .ftintrzWS .. | .ftintrzWD ..
  | .ftintrneWS .. | .ftintrneWD .. => true
  | _ => false

/-- The instructions that read RM: those that round by it (47_fp_arith.md R231), and the moves from and to fcsr0. -/
def readsRounding : Instr → Bool
  | .faddS .. | .faddD .. | .fsubS .. | .fsubD .. | .fmulS .. | .fmulD .. | .fdivS .. | .fdivD .. | .fmaddS .. | .fmaddD ..
  | .fmsubS .. | .fmsubD .. | .fnmaddS .. | .fnmaddD .. | .fnmsubS .. | .fnmsubD .. | .fsqrtS .. | .fsqrtD ..
  | .frecipS .. | .frecipD .. | .frsqrtS .. | .frsqrtD .. | .fcvtSD .. | .ffintSW .. | .ftintWS .. | .ftintWD ..
  | .movgr2fcsr .. | .movfcsr2gr .. => true
  | _ => false

/-- LL.W. -/
def isLoadLinked : Instr → Bool
  | .llW .. => true
  | _ => false

/-- SC.W. -/
def isStoreConditional : Instr → Bool
  | .scW .. => true
  | _ => false

/-- IBAR. -/
def isIbar : Instr → Bool
  | .ibar .. => true
  | _ => false

/-- The bytes a store writes: their first address and their number; an SC.W writes if LLbit is 1 (20_memory.md R77). -/
def storeRange (i : Instr) (s : State) : Option (Word × Nat) :=
  match i with
  | .stB _ rj si12 => some (vaddr12 rj si12 s, 1)
  | .stH _ rj si12 => some (vaddr12 rj si12 s, 2)
  | .stW _ rj si12 | .fstS _ rj si12 => some (vaddr12 rj si12 s, 4)
  | .fstD _ rj si12 => some (vaddr12 rj si12 s, 8)
  | .scW _ rj si14 => if s.llbit then some (vaddr14 rj si14 s, 4) else none
  | _ => none

/-! ### Outcomes under a change of state -/

/-- The trap with its state changed. -/
def Fault.onState (g : State → State) : Fault → Fault
  | .sys c s => .sys c (g s)
  | .brk c s => .brk c (g s)
  | .ine w s => .ine w (g s)
  | .ipe w s => .ipe w (g s)
  | .adef p s => .adef p (g s)
  | .ale a s => .ale a (g s)
  | .fpe e s => .fpe e (g s)

/-- The outcome with its state changed. -/
def onState (g : State → State) : Out → Out
  | .next s => .next (g s)
  | .fault f => .fault (f.onState g)
  | .refused r => .refused r

/-- The state with its floating-point registers, condition flags and fcsr0 replaced. -/
def withFloatState (f : Vector Fpr 32) (fcc : Vector Bool 8) (fcsr0 : Word) (s : State) : State :=
  { s with f := f, fcc := fcc, fcsr0 := fcsr0 }

/-- The state at another privilege level. -/
def withPlv (p : Plv) (s : State) : State := { s with plv := p }

/-- The state with another rounding mode in fcsr0. -/
def withRounding (rm : BitVec 2) (s : State) : State :=
  { s with fcsr0 := (s.fcsr0 &&& 0xFFFFFCFF#32) ||| (rm.setWidth 32 <<< 8) }

/-! ### What is kept -/

/-- Every general register reads as before. -/
def GprsKept (s t : State) : Prop := ∀ r, readGpr r t = readGpr r s
/-- Every floating-point register reads as before. -/
def FprsKept (s t : State) : Prop := ∀ r, readFpr r t = readFpr r s
/-- Every condition flag reads as before. -/
def FlagsKept (s t : State) : Prop := ∀ c, readFcc c t = readFcc c s
/-- Every byte of memory reads as before, and `dirty` is as before. -/
def MemKept (s t : State) : Prop := (∀ a, byteAt a t = byteAt a s) ∧ t.dirty = s.dirty
/-- The privilege level and MEM_MAP are as before. -/
def ModeKept (s t : State) : Prop := t.plv = s.plv ∧ t.memMap = s.memMap

/-! ### What is written -/

/-- `x[rd]` is written and no other general register; r0 stays 0 (10_state.md R21). -/
def GprWritten (rd : RegNo) (v : Word) (s t : State) : Prop :=
  ∀ r, readGpr r t = if r = rd ∧ r ≠ 0 then v else readGpr r s

/-- `f[fd]` is written, all 64 bits, and no other floating-point register. -/
def FprWritten (fd : FprNo) (v : DWord) (s t : State) : Prop :=
  ∀ r, readFpr r t = if r = fd then v else readFpr r s

/-- `f[fd][31:0]` is written and no other floating-point register; nothing is said of `f[fd][63:32]` (10_state.md R33). -/
def FprLowWritten (fd : FprNo) (v : Word) (s t : State) : Prop :=
  (readFpr fd t).extractLsb' 0 32 = v ∧ ∀ r, r ≠ fd → readFpr r t = readFpr r s

/-- `fcc[cd]` is written and no other flag. -/
def FccWritten (cd : CfNo) (b : Bool) (s t : State) : Prop := ∀ c, readFcc c t = if c = cd then b else readFcc c s

/-- The byte `a` is one of `base .. base + n - 1`, modulo 2^32. -/
def InRange (a base : Word) (n : Nat) : Prop := (a - base).toNat < n

/-- The `n` bytes at `base` become the low `n` bytes of `v`, little-endian, and join `dirty`; no other byte changes, and no
other address joins (20_memory.md R62, R77). -/
def BytesStored (n : Nat) (base : Word) (v : DWord) (s t : State) : Prop :=
  (∀ i, i < n → byteAt (base + BitVec.ofNat 32 i) t = v.extractLsb' (8 * i) 8) ∧
  (∀ a, ¬InRange a base n → byteAt a t = byteAt a s) ∧
  (∀ a : Word, a.toNat ∈ t.dirty ↔ a.toNat ∈ s.dirty ∨ InRange a base n)

/-! ### Completed instructions, with their frame -/

/-- The instruction completes, writes `v` to `x[rd]` and advances the pc, and changes nothing else. -/
def WritesGpr (i : Instr) (s : State) (rd : RegNo) (v : Word) : Prop :=
  ∃ t, exec i s = .next t ∧ GprWritten rd v s t ∧ t.pc = s.pc + 4 ∧ FprsKept s t ∧ FlagsKept s t ∧
    t.fcsr0 = s.fcsr0 ∧ t.llbit = s.llbit ∧ MemKept s t ∧ ModeKept s t

/-- The instruction completes, sets the pc to `target`, and changes nothing else. -/
def JumpsTo (i : Instr) (s : State) (target : Word) : Prop :=
  ∃ t, exec i s = .next t ∧ t.pc = target ∧ GprsKept s t ∧ FprsKept s t ∧ FlagsKept s t ∧
    t.fcsr0 = s.fcsr0 ∧ t.llbit = s.llbit ∧ MemKept s t ∧ ModeKept s t

/-- The instruction completes, links `x[rd] <- pc + 4`, sets the pc to `target`, and changes nothing else. -/
def LinksAndJumps (i : Instr) (s : State) (rd : RegNo) (target : Word) : Prop :=
  ∃ t, exec i s = .next t ∧ t.pc = target ∧ GprWritten rd (s.pc + 4) s t ∧ FprsKept s t ∧ FlagsKept s t ∧
    t.fcsr0 = s.fcsr0 ∧ t.llbit = s.llbit ∧ MemKept s t ∧ ModeKept s t

/-- The instruction completes, writes `v` to all of `f[fd]` and advances the pc, and changes nothing else. -/
def WritesFpr (i : Instr) (s : State) (fd : FprNo) (v : DWord) : Prop :=
  ∃ t, exec i s = .next t ∧ FprWritten fd v s t ∧ t.pc = s.pc + 4 ∧ GprsKept s t ∧ FlagsKept s t ∧
    t.fcsr0 = s.fcsr0 ∧ t.llbit = s.llbit ∧ MemKept s t ∧ ModeKept s t

/-- The instruction completes, writes `v` to `f[fd][31:0]`, leaves `f[fd][63:32]` open (10_state.md R33) and advances the pc,
and changes nothing else. -/
def WritesFprLow (i : Instr) (s : State) (fd : FprNo) (v : Word) : Prop :=
  ∃ t, exec i s = .next t ∧ FprLowWritten fd v s t ∧ t.pc = s.pc + 4 ∧ GprsKept s t ∧ FlagsKept s t ∧
    t.fcsr0 = s.fcsr0 ∧ t.llbit = s.llbit ∧ MemKept s t ∧ ModeKept s t

/-- The instruction completes, writes `b` to `fcc[cd]` and advances the pc, and changes nothing else. -/
def WritesFcc (i : Instr) (s : State) (cd : CfNo) (b : Bool) : Prop :=
  ∃ t, exec i s = .next t ∧ FccWritten cd b s t ∧ t.pc = s.pc + 4 ∧ GprsKept s t ∧ FprsKept s t ∧
    t.fcsr0 = s.fcsr0 ∧ t.llbit = s.llbit ∧ MemKept s t ∧ ModeKept s t

/-- The instruction completes, stores the low `n` bytes of `v` at `base` and advances the pc, and changes nothing else. -/
def StoresBytes (i : Instr) (s : State) (n : Nat) (base : Word) (v : DWord) : Prop :=
  ∃ t, exec i s = .next t ∧ BytesStored n base v s t ∧ t.pc = s.pc + 4 ∧ GprsKept s t ∧ FprsKept s t ∧ FlagsKept s t ∧
    t.fcsr0 = s.fcsr0 ∧ t.llbit = s.llbit ∧ ModeKept s t

/-- A load or store of `n` bytes at `vaddr` (20_memory.md R80): ALE if misaligned, then the refusal if a byte is outside
MEM_MAP, else `done`. -/
def AccessEnds (i : Instr) (s : State) (n : Nat) (vaddr : Word) (done : Prop) : Prop :=
  (vaddr.toNat % n ≠ 0 → exec i s = .fault (.ale vaddr s)) ∧
  (vaddr.toNat % n = 0 → (∃ k, k < n ∧ mapped (vaddr + BitVec.ofNat 32 k) s = false) →
    exec i s = .refused (.unmapped vaddr)) ∧
  (vaddr.toNat % n = 0 → (∀ k, k < n → mapped (vaddr + BitVec.ofNat 32 k) s = true) → done)

/-! ### The end of a floating-point operation (47_fp_arith.md R233) -/

/-- fcsr0 after an operation that did not trap: Cause is the set that occurred, Flags has accumulated it, Enables, RM and every
other bit are as before. -/
def FcsrAfter (exc : FpExc) (s t : State) : Prop :=
  causeField t = exc ∧ flagsField t = flagsField s ||| exc ∧ enables t = enables s ∧ roundingBits t = roundingBits s ∧
    t.fcsr0 &&& ~~~fcsrWritable = s.fcsr0 &&& ~~~fcsrWritable

/-- The trapped state: Cause is the set that occurred; Flags, every other field of fcsr0 and all other state are as before
(60_exceptions.md R369). -/
def FpTrapped (exc : FpExc) (s t : State) : Prop :=
  causeField t = exc ∧ flagsField t = flagsField s ∧ enables t = enables s ∧ roundingBits t = roundingBits s ∧
    t.fcsr0 &&& ~~~fcsrWritable = s.fcsr0 &&& ~~~fcsrWritable ∧ { t with fcsr0 := s.fcsr0 } = s

/-- The instruction ends by the procedure of R233 with the exceptions `exc`: it traps when one of them is enabled, else it
completes with fcsr0 updated, `written s t` for its destination, the pc advanced and nothing else changed. -/
def EndsByR233 (i : Instr) (s : State) (exc : FpExc) (written : State → State → Prop) : Prop :=
  (exc &&& enables s ≠ 0 → ∃ t, exec i s = .fault (.fpe exc t) ∧ FpTrapped exc s t) ∧
  (exc &&& enables s = 0 → ∃ t, exec i s = .next t ∧ FcsrAfter exc s t ∧ written s t ∧ t.pc = s.pc + 4 ∧
    GprsKept s t ∧ t.llbit = s.llbit ∧ MemKept s t ∧ ModeKept s t)

/-- A binary32 result in `f[fd][31:0]`: the bits, or some quiet NaN (47_fp_arith.md R234, R235); the flags are kept. -/
def ResultS (fd : FprNo) (res : FpRes) (s t : State) : Prop :=
  FlagsKept s t ∧ ∃ v : Word, FprLowWritten fd v s t ∧
    match res with
    | .bits w => v = w.extractLsb' 0 32
    | .quietNan => v.extractLsb' 22 9 = 0x1FF#9

/-- A binary64 result in `f[fd]`: the bits, or some quiet NaN (47_fp_arith.md R234, R235); the flags are kept. -/
def ResultD (fd : FprNo) (res : FpRes) (s t : State) : Prop :=
  FlagsKept s t ∧ ∃ v : DWord, FprWritten fd v s t ∧
    match res with
    | .bits w => v = w
    | .quietNan => v.extractLsb' 51 12 = 0xFFF#12

/-! ### Exact values -/

/-- The rational value of a finite number. -/
def finiteValue (neg : Bool) (m : Nat) (e : Int) : ℚ := (if neg then -1 else 1) * m * (2 : ℚ) ^ e

/-- The rational value of a bit pattern, if it is finite. -/
def valueOf (fmt : FpFormat) (w : DWord) : Option ℚ :=
  match unpack fmt w with
  | .fin neg m e => some (finiteValue neg m e)
  | _ => none

/-- The exponent of the last place of the largest finite number: 104 and 971. -/
def topQuantum (fmt : FpFormat) : Int := minQuantum fmt + 2 ^ (layout fmt).expBits - 3

/-- The largest finite number of a format. -/
def maxFinite (fmt : FpFormat) : ℚ := (2 ^ ((layout fmt).fracBits + 1) - 1) * (2 : ℚ) ^ topQuantum fmt

/-- The power of two above the largest finite number. -/
def overflowBound (fmt : FpFormat) : ℚ := 2 ^ ((layout fmt).fracBits + 1) * (2 : ℚ) ^ topQuantum fmt

/-- The smallest positive normal number of a format. -/
def minNormal (fmt : FpFormat) : ℚ := 2 ^ (layout fmt).fracBits * (2 : ℚ) ^ minQuantum fmt

/-- `r` is the real number `x` rounded to the format in the mode (47_fp_arith.md R231): no finite number of the format is
better placed. `even` says whether the last bit of `r` is 0. -/
def IsRounded (fmt : FpFormat) (mode : RoundMode) (x : ℝ) (r : ℚ) (even : Bool) : Prop :=
  match mode with
  | .rp => x ≤ r ∧ ∀ w v, valueOf fmt w = some v → x ≤ v → r ≤ v
  | .rm => (r : ℝ) ≤ x ∧ ∀ w v, valueOf fmt w = some v → (v : ℝ) ≤ x → v ≤ r
  | .rz => |(r : ℝ)| ≤ |x| ∧ 0 ≤ r * x ∧ ∀ w v, valueOf fmt w = some v → |(v : ℝ)| ≤ |x| → |v| ≤ |r|
  | .rne => ∀ w v, valueOf fmt w = some v → |r - x| ≤ |v - x| ∧ (|r - x| = |v - x| → v ≠ r → even = true)

/-- The magnitude of `x`, rounded in the mode to the precision of a format with no bound on the exponent, is at least `bound`: a
power of two below which the numbers of that precision lie `gap` apart. -/
def RoundsUpTo (mode : RoundMode) (bound gap : ℚ) (x : ℝ) : Prop :=
  match mode with
  | .rne => ((bound - gap / 2 : ℚ) : ℝ) ≤ |x|
  | .rz => (bound : ℝ) ≤ |x|
  | .rp => (0 < x ∧ ((bound - gap : ℚ) : ℝ) < |x|) ∨ (bound : ℝ) ≤ |x|
  | .rm => (x < 0 ∧ ((bound - gap : ℚ) : ℝ) < |x|) ∨ (bound : ℝ) ≤ |x|

/-- The rounded result, had the exponent range been unbounded, exceeds the largest finite number (47_fp_arith.md R232). -/
def Overflows (fmt : FpFormat) (mode : RoundMode) (x : ℝ) : Prop :=
  RoundsUpTo mode (overflowBound fmt) ((2 : ℚ) ^ topQuantum fmt) x

/-- `x`, not 0, is below the smallest normal magnitude: after rounding, or, where that is the choice (log 11), before
(47_fp_arith.md R232). -/
def IsTiny (fmt : FpFormat) (mode : RoundMode) (x : ℝ) : Prop :=
  ¬RoundsUpTo mode (minNormal fmt) ((2 : ℚ) ^ (minQuantum fmt - 1)) x ∨
    (Config.tinyBeforeRounding = true ∧ |x| < (minNormal fmt : ℝ))

/-- The modes that round `x` toward zero. -/
def RoundsTowardZero (mode : RoundMode) (x : ℝ) : Prop := mode = .rz ∨ (mode = .rp ∧ x < 0) ∨ (mode = .rm ∧ 0 < x)

/-- The result and the exceptions of an operation whose exact value is the real number `x`, not 0 (47_fp_arith.md R231, R232).
An overflow raises O and I alone and gives the largest finite number, where the mode rounds toward zero, or an infinity. Otherwise
the result is `x` rounded to the format; I is raised exactly if it is not `x`, U exactly if `x` is tiny and I is raised or U is
enabled, and V, Z and O are not. The result has the sign of `x`. -/
def CorrectlyRounded (fmt : FpFormat) (env : FpEnv) (x : ℝ) (o : FpOut) : Prop :=
  ∃ w, o.res = .bits w ∧ (signField fmt w = true ↔ x < 0) ∧
    (Overflows fmt env.mode x → o.exc = excO ||| excI ∧
      (RoundsTowardZero env.mode x → ∃ r, valueOf fmt w = some r ∧ |r| = maxFinite fmt) ∧
      (¬RoundsTowardZero env.mode x → unpack fmt w = .inf (signField fmt w))) ∧
    (¬Overflows fmt env.mode x → ∃ r, valueOf fmt w = some r ∧ IsRounded fmt env.mode x r (!w.getLsbD 0) ∧
      (o.exc &&& excI ≠ 0 ↔ (r : ℝ) ≠ x) ∧
      (o.exc &&& excU ≠ 0 ↔ IsTiny fmt env.mode x ∧ ((r : ℝ) ≠ x ∨ env.underflowEnabled = true)) ∧
      o.exc &&& (excV ||| excZ ||| excO) = 0)

/-- `v` is the exact value of an operation of FP_NUMERICS on finite operands, and `o` what the operation gives
(47_fp_arith.md R236, 48_fp_cmp_cvt.md R295 to R298). -/
inductive FiniteOperation (fmt : FpFormat) (env : FpEnv) : ℚ → FpOut → Prop where
  | rounding (neg : Bool) (m : Nat) (e : Int) : FiniteOperation fmt env (finiteValue neg m e) (roundValue fmt env neg m e)
  | sum (a b : DWord) (x y : ℚ) : valueOf fmt a = some x → valueOf fmt b = some y →
      FiniteOperation fmt env (x + y) (fpAdd fmt env a b)
  | difference (a b : DWord) (x y : ℚ) : valueOf fmt a = some x → valueOf fmt b = some y →
      FiniteOperation fmt env (x - y) (fpSub fmt env a b)
  | product (a b : DWord) (x y : ℚ) : valueOf fmt a = some x → valueOf fmt b = some y →
      FiniteOperation fmt env (x * y) (fpMul fmt env a b)
  | quotient (a b : DWord) (x y : ℚ) : valueOf fmt a = some x → valueOf fmt b = some y → y ≠ 0 →
      FiniteOperation fmt env (x / y) (fpDiv fmt env a b)
  | fusedSum (op : FpOp) (a b c : DWord) (x y z : ℚ) : valueOf fmt a = some x → valueOf fmt b = some y →
      valueOf fmt c = some z → FiniteOperation fmt env (x * y + z) (fpFma op fmt env false a b c)
  | fusedDifference (op : FpOp) (a b c : DWord) (x y z : ℚ) : valueOf fmt a = some x → valueOf fmt b = some y →
      valueOf fmt c = some z → FiniteOperation fmt env (x * y - z) (fpFma op fmt env true a b c)
  | conversion (src : FpFormat) (a : DWord) (x : ℚ) : valueOf src a = some x →
      FiniteOperation fmt env x (fpConvert fmt src env a)
  | integer (n : Int) : FiniteOperation fmt env n (fpFromInt fmt env n)

end Sys2Proof.Machine
end

