-- ==== Sys2Proof/Certificates/Slice0/Obligations.lean ====
section
/-! DEFINITION. The statements for the provers. Each docstring names the rules of spec/ it formalises. -/

open Sys2Proof Sys2Proof.Machine

/-! ### Encoding (30_encoding.md) -/

/-- Decoding the word of any well-formed instruction gives the instruction back (R104; well-formedness: R107, R210, logs 18
and 19). -/
def Obligations.DecodeOfEncode : Prop := ∀ i : Instr, i.wellFormed = true → decode (encode i) = .ok i

/-- Every word the decoder accepts is the word of the instruction it gives, and that instruction is well-formed: no bit of an
accepted word is dropped (R104). -/
def Obligations.EncodeOfDecode : Prop := ∀ (w : Word) (i : Instr), decode w = .ok i → encode i = w ∧ i.wellFormed = true

/-- Words written out from the encoding listing are read as the instructions they stand for (R104). -/
def Obligations.DecodeExampleWords : Prop :=
  decode 0b00000000000100000_00110_00101_00100#32 = .ok (.addW 4 5 6) ∧
  decode 0b00000000000111001_00110_00101_00100#32 = .ok (.mulhW 4 5 6) ∧
  decode 0b00000000010010001_00110_00101_00100#32 = .ok (.sraiW 4 5 6) ∧
  decode 0b010101_0000000000000011_1111111110#32 = .ok (.bl 0b11111111100000000000000011#26) ∧
  decode 0b0010100100_100000000001_00101_00100#32 = .ok (.stB 4 5 0x801) ∧
  decode 0b00100001_10000000000001_00101_00100#32 = .ok (.scW 4 5 0x2001) ∧
  decode 0b0000000000000000011000_00110_00000#32 = .ok (.rdcntid 6) ∧
  decode 0b000010001101_00111_00110_00101_00100#32 = .ok (.fnmsubS 4 5 6 7) ∧
  decode 0b000011000001_01111_00110_00101_00_100#32 = .ok (.fcmpS 0x0F 4 5 6) ∧
  decode 0b0000000100010100110111_00_101_00100#32 = .ok (.movcf2gr 4 5) ∧
  decode 0b010010_0000000000000001_01_101_10000#32 = .ok (.bcnez 5 0b100000000000000000001#21)

/-- A word is an undefined opcode exactly if it agrees with no row of the table on the row's opcode mask; executing it raises
INE with the word (R105). -/
def Obligations.UndefinedOpcodeRaisesIne : Prop :=
  ∀ w : Word,
    (decode w = .undefinedOpcode ↔ ∀ r ∈ opcodeRows, w &&& r.opcodeMask ≠ r.mtch &&& r.opcodeMask) ∧
    ((∀ r ∈ opcodeRows, w &&& r.opcodeMask ≠ r.mtch &&& r.opcodeMask) → ∀ s, runWord exec w s = .fault (.ine w s))

/-- A word that agrees with a row on its opcode mask but with no row on its mask is refused (R106); and an instruction is read
exactly where some row matches. -/
def Obligations.ReservedFieldsRefused : Prop :=
  ∀ w : Word,
    ((∃ r ∈ opcodeRows, w &&& r.opcodeMask = r.mtch &&& r.opcodeMask) → (∀ r ∈ opcodeRows, w &&& r.mask ≠ r.mtch) →
      ∀ s, runWord exec w s = .refused (.reservedField w)) ∧
    ((∃ r ∈ opcodeRows, w &&& r.mask = r.mtch) ↔ ∃ i, decode w = .ok i)

/-! ### The step (20_memory.md section 2) -/

/-- Where the word at the pc is an instruction and nothing stops the fetch, a step is the instruction's execution, after what
the environment may do at the boundary. -/
def Obligations.StepRunsDecoded : Prop :=
  ∀ (s : State) (i : Instr), s.pc.toNat % 4 = 0 →
    (∀ k, k < 4 → mapped (s.pc + BitVec.ofNat 32 k) s = true ∧ (s.pc + BitVec.ofNat 32 k).toNat ∉ s.dirty) →
    decode (instrWordAt s.pc s) = .ok i → step s = exec i (boundary s)

/-- The stages of a step in their order: ADEF, the refusals of the fetch, the word read, INE or the refusal of the decode, IPE,
execution (R67). -/
def Obligations.FetchAndExecuteStages : Prop :=
  ∀ s : State,
    (s.pc.extractLsb' 0 2 ≠ 0 → step s = .fault (.adef s.pc (boundary s))) ∧
    (s.pc.extractLsb' 0 2 = 0 →
      (∃ k, k < 4 ∧ (mapped (s.pc + BitVec.ofNat 32 k) s = false ∨ (s.pc + BitVec.ofNat 32 k).toNat ∈ s.dirty)) →
      step s = .refused (.unmapped s.pc) ∨ step s = .refused (.staleFetch s.pc)) ∧
    (s.pc.extractLsb' 0 2 = 0 →
      (∀ k, k < 4 → mapped (s.pc + BitVec.ofNat 32 k) s = true ∧ (s.pc + BitVec.ofNat 32 k).toNat ∉ s.dirty) →
      ∀ w, w = (byteAt (s.pc + 3) s ++ byteAt (s.pc + 2) s ++ byteAt (s.pc + 1) s ++ byteAt s.pc s :
          BitVec (8 + 8 + 8 + 8)) →
        (decode w = .undefinedOpcode → step s = .fault (.ine w (boundary s))) ∧
        (decode w = .reservedField → step s = .refused (.reservedField w)) ∧
        (∀ i, decode w = .ok i →
          (privileged i = true → s.plv = .plv3 → step s = .fault (.ipe w (boundary s))) ∧
          (¬(privileged i = true ∧ s.plv = .plv3) → step s = exec i (boundary s))))

/-- The boundary of a step can only clear LLbit (and count the draw); in execution only LL.W sets LLbit and only SC.W clears it
(45_atomic_barrier.md R192). -/
def Obligations.LinkBitChanges : Prop :=
  (∀ s : State, boundary s = { s with llbit := (boundary s).llbit, draws := (boundary s).draws } ∧
    ((boundary s).llbit = true → s.llbit = true)) ∧
  (∀ (i : Instr) (s t : State), exec i s = .next t →
    (isLoadLinked i = true → t.llbit = true) ∧ (isStoreConditional i = true → t.llbit = false) ∧
    (isLoadLinked i = false → isStoreConditional i = false → t.llbit = s.llbit))

/-- Every trap is precise: the trapped state is the state before the instruction, but that FPE has written Cause (60_exceptions.md
R375, R369). -/
def Obligations.TrapsArePrecise : Prop :=
  (∀ (i : Instr) (s : State) (f : Fault), exec i s = .fault f →
    f.state = s ∨ ∃ exc, f = .fpe exc f.state ∧ exc &&& enables s ≠ 0 ∧ FpTrapped exc s f.state) ∧
  (∀ (s : State) (f : Fault), step s = .fault f →
    f.state = boundary s ∨
      ∃ exc, f = .fpe exc f.state ∧ exc &&& enables s ≠ 0 ∧ FpTrapped exc (boundary s) f.state)

/-! ### Invariants -/

/-- Every step keeps the invariant: r0 is 0, the reserved bits of fcsr0 are 0, memory and `dirty` are in canonical form. -/
def Obligations.InvKeptByStep : Prop := ∀ s t : State, Inv s → step s = .next t → Inv t

/-- The invariant holds at the launch state, with the values R400 fixes: r0 is 0, the reserved bits of fcsr0 are 0, `dirty` is
empty. What R400 leaves free is not stated (logs 4 to 7). -/
def Obligations.InvAtReset : Prop :=
  Inv State.reset ∧ readGpr 0 State.reset = 0 ∧ State.reset.fcsr0 &&& 0xE0E0FCE0#32 = 0 ∧ State.reset.dirty = []

/-- No step changes the privilege level or MEM_MAP (10_state.md R29, 20_memory.md R61). -/
def Obligations.ModeIsConstant : Prop := ∀ s t : State, step s = .next t → t.plv = s.plv ∧ t.memMap = s.memMap

/-- An instruction that is no branch or jump ends with `pc <- pc + 4`. From an aligned pc every instruction but JIRL leaves the
pc aligned; JIRL completes, links, and leaves the pc with the low two bits of `x[rj]`; a fetch at a misaligned pc raises ADEF
(10_state.md R25, 43_branch.md R173). -/
def Obligations.PcAlignment : Prop :=
  (∀ (i : Instr) (s t : State), exec i s = .next t → assignsPc i = false → t.pc = s.pc + 4) ∧
  (∀ (i : Instr) (s t : State), exec i s = .next t → isJirl i = false → s.pc.toNat % 4 = 0 → t.pc.toNat % 4 = 0) ∧
  (∀ (rd rj : RegNo) (offs16 : BitVec 16) (s : State), ∃ t, exec (.jirl rd rj offs16) s = .next t ∧
    GprWritten rd (s.pc + 4) s t ∧ t.pc.extractLsb' 0 2 = (readGpr rj s).extractLsb' 0 2) ∧
  (∀ s : State, s.pc.extractLsb' 0 2 ≠ 0 → step s = .fault (.adef s.pc (boundary s)))

/-- A condition flag changes only by FCMP, MOVFR2CF and MOVGR2CF (10_state.md R35). Enables and RM change only by MOVGR2FCSR,
Cause only by it and the instructions of 47_fp_arith.md R233, and but for MOVGR2FCSR Flags only gains bits (R40, R44). -/
def Obligations.FloatStatusChanges : Prop :=
  ∀ (i : Instr) (s t : State), exec i s = .next t →
    (writesFlag i = false → FlagsKept s t) ∧
    (writesFcsrField i = false → enables t = enables s ∧ roundingBits t = roundingBits s ∧
      flagsField s &&& flagsField t = flagsField s) ∧
    (writesFcsrField i = false → runsR233 i = false → t.fcsr0 = s.fcsr0)

/-- An integer instruction neither reads nor writes a floating-point register, a condition flag or fcsr0: with all of them
replaced it ends the same way, with the replaced values still there (10_state.md R32). -/
def Obligations.IntegerIgnoresFloatState : Prop :=
  ∀ (i : Instr) (f : Vector Fpr 32) (fcc : Vector Bool 8) (fcsr0 : Word) (s : State), integerOnly i = true →
    exec i (withFloatState f fcc fcsr0 s) = onState (withFloatState f fcc fcsr0) (exec i s)

/-- The ten privileged instructions raise IPE with their word at PLV3 and are refused at PLV0, CACOP is refused at both, and
every other instruction executes identically at both levels (60_exceptions.md R372; the list is log 17). -/
def Obligations.PrivilegeCheck : Prop :=
  (∀ (i : Instr) (s : State), privileged i = true →
    (s.plv = .plv3 → exec i s = .fault (.ipe (encode i) s)) ∧
    (s.plv = .plv0 → exec i s = .refused (.noSemantics (encode i)))) ∧
  (∀ code rj si12 s, exec (.cacop code rj si12) s = .refused (.noSemantics (encode (.cacop code rj si12)))) ∧
  (∀ (i : Instr) (p : Plv) (s : State), privileged i = false →
    exec i (withPlv p s) = onState (withPlv p) (exec i s))

/-- `dirty` is empty at launch; a completed store adds exactly the bytes it writes and changes no other byte of memory; IBAR
empties `dirty`; no other instruction changes memory or `dirty`; a fetch that reads a byte in `dirty` is refused (20_memory.md
R77). -/
def Obligations.StoresJoinDirty : Prop :=
  State.reset.dirty = [] ∧
  (∀ (i : Instr) (s t : State) (base : Word) (n : Nat), exec i s = .next t → storeRange i s = some (base, n) →
    (∀ a : Word, a.toNat ∈ t.dirty ↔ a.toNat ∈ s.dirty ∨ InRange a base n) ∧
    (∀ a : Word, ¬InRange a base n → byteAt a t = byteAt a s)) ∧
  (∀ (i : Instr) (s t : State), exec i s = .next t → storeRange i s = none →
    (∀ a : Word, byteAt a t = byteAt a s) ∧ t.dirty = if isIbar i then [] else s.dirty) ∧
  (∀ s : State, s.pc.toNat % 4 = 0 → (∀ k, k < 4 → mapped (s.pc + BitVec.ofNat 32 k) s = true) →
    (∃ k, k < 4 ∧ (s.pc + BitVec.ofNat 32 k).toNat ∈ s.dirty) → step s = .refused (.staleFetch s.pc))

/-- A word stored by ST.W is read back byte by byte by LD.BU and by halves by LD.HU, little-endian (20_memory.md R63). -/
def Obligations.MixedWidthReads : Prop :=
  ∀ (rd rj : RegNo) (si12 : BitVec 12) (s t : State), exec (.stW rd rj si12) s = .next t →
    (∀ (r j : RegNo) (i12 : BitVec 12) (k : Nat), k < 4 → vaddr12 j i12 t = vaddr12 rj si12 s + BitVec.ofNat 32 k →
      WritesGpr (.ldBu r j i12) t r (((readGpr rd s).extractLsb' (8 * k) 8).setWidth 32)) ∧
    (∀ (r j : RegNo) (i12 : BitVec 12) (k : Nat), k < 2 →
      vaddr12 j i12 t = vaddr12 rj si12 s + BitVec.ofNat 32 (2 * k) →
      WritesGpr (.ldHu r j i12) t r (((readGpr rd s).extractLsb' (16 * k) 16).setWidth 32))

/-! ### Integer arithmetic, compare, logic (40_int_arith_logic.md) -/

/-- ADD.W, SUB.W, ADDI.W, LU12I.W, PCADDU12I: encoding, result modulo 2^32, frame (R121 to R124, R129). -/
def Obligations.AddSubResults : Prop :=
  Row3R 0x00100000#32 .addW ∧ Row3R 0x00110000#32 .subW ∧ Row2RI12 0x02800000#32 .addiW ∧
  Row1RI20 0x14000000#32 .lu12iW ∧ Row1RI20 0x1C000000#32 .pcaddu12i ∧
  ∀ (s : State) (rd rj rk : RegNo) (si12 : BitVec 12) (si20 : BitVec 20),
    WritesGpr (.addW rd rj rk) s rd (BitVec.ofInt 32 ((readGpr rj s).toInt + (readGpr rk s).toInt)) ∧
    WritesGpr (.subW rd rj rk) s rd (BitVec.ofInt 32 ((readGpr rj s).toInt - (readGpr rk s).toInt)) ∧
    WritesGpr (.addiW rd rj si12) s rd (BitVec.ofInt 32 ((readGpr rj s).toInt + si12.toInt)) ∧
    WritesGpr (.lu12iW rd si20) s rd (si20 ++ 0#12 : BitVec (20 + 12)) ∧
    WritesGpr (.pcaddu12i rd si20) s rd (s.pc + (si20 ++ 0#12 : BitVec (20 + 12)))

/-- SLT, SLTU, SLTI, SLTUI: encoding, result 1 or 0, frame (R125 to R128). The immediate of SLTUI is sign-extended and then
compared as unsigned. -/
def Obligations.CompareResults : Prop :=
  Row3R 0x00120000#32 .slt ∧ Row3R 0x00128000#32 .sltu ∧ Row2RI12 0x02000000#32 .slti ∧ Row2RI12 0x02400000#32 .sltui ∧
  ∀ (s : State) (rd rj rk : RegNo) (si12 : BitVec 12),
    WritesGpr (.slt rd rj rk) s rd (if (readGpr rj s).toInt < (readGpr rk s).toInt then 1 else 0) ∧
    WritesGpr (.sltu rd rj rk) s rd (if (readGpr rj s).toNat < (readGpr rk s).toNat then 1 else 0) ∧
    WritesGpr (.slti rd rj si12) s rd (if (readGpr rj s).toInt < si12.toInt then 1 else 0) ∧
    WritesGpr (.sltui rd rj si12) s rd (if (readGpr rj s).toNat < (si12.signExtend 32).toNat then 1 else 0)

/-- AND, OR, NOR, XOR, ANDI, ORI, XORI, NOP: encoding, result, frame (R130 to R136). R137 says that the word 0x03400000 decodes as
ANDI; that it decodes under the name NOP, and every other word of the row as ANDI, is the model's choice (log 18). -/
def Obligations.LogicResults : Prop :=
  Row3R 0x00148000#32 .and ∧ Row3R 0x00150000#32 .or ∧ Row3R 0x00140000#32 .nor ∧ Row3R 0x00158000#32 .xor ∧
  (∀ w : Word, w ≠ 0x03400000#32 → w &&& 0xFFC00000#32 = 0x03400000#32 →
    decode w = .ok (.andi (w.extractLsb' 0 5) (w.extractLsb' 5 5) (w.extractLsb' 10 12))) ∧
  Row2RI12 0x03800000#32 .ori ∧ Row2RI12 0x03C00000#32 .xori ∧ decode 0x03400000#32 = .ok .nop ∧
  ∀ (s : State) (rd rj rk : RegNo) (ui12 : BitVec 12),
    WritesGpr (.and rd rj rk) s rd (readGpr rj s &&& readGpr rk s) ∧
    WritesGpr (.or rd rj rk) s rd (readGpr rj s ||| readGpr rk s) ∧
    WritesGpr (.nor rd rj rk) s rd (~~~(readGpr rj s ||| readGpr rk s)) ∧
    WritesGpr (.xor rd rj rk) s rd (readGpr rj s ^^^ readGpr rk s) ∧
    WritesGpr (.andi rd rj ui12) s rd (readGpr rj s &&& ui12.setWidth 32) ∧
    WritesGpr (.ori rd rj ui12) s rd (readGpr rj s ||| ui12.setWidth 32) ∧
    WritesGpr (.xori rd rj ui12) s rd (readGpr rj s ^^^ ui12.setWidth 32) ∧
    exec .nop s = exec (.andi 0 0 0) s ∧ JumpsTo .nop s (s.pc + 4)

/-! ### Multiply, divide, shift (41_int_muldiv.md, 42_int_shift.md) -/

/-- MUL.W, MULH.W, MULH.WU: encoding, the stated half of the exact product, frame (R141 to R143). -/
def Obligations.MultiplyResults : Prop :=
  Row3R 0x001C0000#32 .mulW ∧ Row3R 0x001C8000#32 .mulhW ∧ Row3R 0x001D0000#32 .mulhWu ∧
  ∀ (s : State) (rd rj rk : RegNo),
    WritesGpr (.mulW rd rj rk) s rd (BitVec.ofInt 32 ((readGpr rj s).toInt * (readGpr rk s).toInt)) ∧
    WritesGpr (.mulhW rd rj rk) s rd (BitVec.ofInt 32 ((readGpr rj s).toInt * (readGpr rk s).toInt / 2 ^ 32)) ∧
    WritesGpr (.mulhWu rd rj rk) s rd (BitVec.ofNat 32 ((readGpr rj s).toNat * (readGpr rk s).toNat / 2 ^ 32))

/-- DIV.W and MOD.W by a divisor other than 0: encoding, the quotient rounded toward zero and the remainder with the sign of the
dividend, their low 32 bits, frame; by 0, some value is written (R144, R145, R149). -/
def Obligations.SignedDivisionResults : Prop :=
  Row3R 0x00200000#32 .divW ∧ Row3R 0x00208000#32 .modW ∧
  ∀ (s : State) (rd rj rk : RegNo),
    (readGpr rk s = 0 → (∃ v, WritesGpr (.divW rd rj rk) s rd v) ∧ (∃ v, WritesGpr (.modW rd rj rk) s rd v)) ∧
    (readGpr rk s ≠ 0 → ∃ q r : Int,
      (readGpr rj s).toInt = q * (readGpr rk s).toInt + r ∧ |r| < |(readGpr rk s).toInt| ∧
      0 ≤ r * (readGpr rj s).toInt ∧
      WritesGpr (.divW rd rj rk) s rd (BitVec.ofInt 32 q) ∧ WritesGpr (.modW rd rj rk) s rd (BitVec.ofInt 32 r))

/-- DIV.WU and MOD.WU: encoding, the floor of the quotient and the remainder, frame; and none of the four divisions raises an
exception by 0, where each writes some value (R146 to R148). -/
def Obligations.UnsignedDivisionResults : Prop :=
  Row3R 0x00210000#32 .divWu ∧ Row3R 0x00218000#32 .modWu ∧
  ∀ (s : State) (rd rj rk : RegNo),
    (readGpr rk s ≠ 0 → ∃ q r : Nat,
      (readGpr rj s).toNat = q * (readGpr rk s).toNat + r ∧ r < (readGpr rk s).toNat ∧
      WritesGpr (.divWu rd rj rk) s rd (BitVec.ofNat 32 q) ∧ WritesGpr (.modWu rd rj rk) s rd (BitVec.ofNat 32 r)) ∧
    (readGpr rk s = 0 → ∀ i ∈ [Instr.divW rd rj rk, .modW rd rj rk, .divWu rd rj rk, .modWu rd rj rk],
      ∃ v, WritesGpr i s rd v)

/-- The six shifts: encoding, result, frame; the amount is `x[rk][4:0]` or `ui5` (R150 to R156). -/
def Obligations.ShiftResults : Prop :=
  Row3R 0x00170000#32 .sllW ∧ Row3R 0x00178000#32 .srlW ∧ Row3R 0x00180000#32 .sraW ∧
  Row3R 0x00408000#32 .slliW ∧ Row3R 0x00448000#32 .srliW ∧ Row3R 0x00488000#32 .sraiW ∧
  ∀ (s : State) (rd rj rk : RegNo) (ui5 : BitVec 5),
    WritesGpr (.sllW rd rj rk) s rd (BitVec.ofNat 32 ((readGpr rj s).toNat * 2 ^ ((readGpr rk s).toNat % 32))) ∧
    WritesGpr (.srlW rd rj rk) s rd (BitVec.ofNat 32 ((readGpr rj s).toNat / 2 ^ ((readGpr rk s).toNat % 32))) ∧
    WritesGpr (.sraW rd rj rk) s rd (BitVec.ofInt 32 ((readGpr rj s).toInt / 2 ^ ((readGpr rk s).toNat % 32))) ∧
    WritesGpr (.slliW rd rj ui5) s rd (BitVec.ofNat 32 ((readGpr rj s).toNat * 2 ^ ui5.toNat)) ∧
    WritesGpr (.srliW rd rj ui5) s rd (BitVec.ofNat 32 ((readGpr rj s).toNat / 2 ^ ui5.toNat)) ∧
    WritesGpr (.sraiW rd rj ui5) s rd (BitVec.ofInt 32 ((readGpr rj s).toInt / 2 ^ ui5.toNat))

/-! ### Branches (43_branch.md, 49_fp_move_branch_mem.md section 5) -/

/-- The conditional branches: encoding, the target `pc + 4 * offset` from the branch's own address if the condition holds, else
`pc + 4`, frame (R161 to R166, R335, R336). -/
def Obligations.ConditionalBranches : Prop :=
  Row2RI16 0x58000000#32 (fun d j o => .beq j d o) ∧ Row2RI16 0x5C000000#32 (fun d j o => .bne j d o) ∧
  Row2RI16 0x60000000#32 (fun d j o => .blt j d o) ∧ Row2RI16 0x64000000#32 (fun d j o => .bge j d o) ∧
  Row2RI16 0x68000000#32 (fun d j o => .bltu j d o) ∧ Row2RI16 0x6C000000#32 (fun d j o => .bgeu j d o) ∧
  Row1RI21 0x48000000#32 .bceqz ∧ Row1RI21 0x48000100#32 .bcnez ∧
  ∀ (s : State) (rj rd : RegNo) (cj : CfNo) (offs16 : BitVec 16) (offs21 : BitVec 21) (t16 t21 : Word),
    t16 = s.pc + BitVec.ofInt 32 (4 * offs16.toInt) → t21 = s.pc + BitVec.ofInt 32 (4 * offs21.toInt) →
    JumpsTo (.beq rj rd offs16) s (if readGpr rj s = readGpr rd s then t16 else s.pc + 4) ∧
    JumpsTo (.bne rj rd offs16) s (if readGpr rj s ≠ readGpr rd s then t16 else s.pc + 4) ∧
    JumpsTo (.blt rj rd offs16) s (if (readGpr rj s).toInt < (readGpr rd s).toInt then t16 else s.pc + 4) ∧
    JumpsTo (.bge rj rd offs16) s (if (readGpr rj s).toInt ≥ (readGpr rd s).toInt then t16 else s.pc + 4) ∧
    JumpsTo (.bltu rj rd offs16) s (if (readGpr rj s).toNat < (readGpr rd s).toNat then t16 else s.pc + 4) ∧
    JumpsTo (.bgeu rj rd offs16) s (if (readGpr rj s).toNat ≥ (readGpr rd s).toNat then t16 else s.pc + 4) ∧
    JumpsTo (.bceqz cj offs21) s (if readFcc cj s = false then t21 else s.pc + 4) ∧
    JumpsTo (.bcnez cj offs21) s (if readFcc cj s = true then t21 else s.pc + 4)

/-- B, BL and JIRL: encoding, target, link `pc + 4` in r1 or `x[rd]`, frame (R167, R168). That the target of JIRL is computed from
the old `x[rj]` where rd is rj is the spec's decision D6 (00_scope.md R13, R171, 90_conflicts.md C12, log 24). -/
def Obligations.JumpsAndLinks : Prop :=
  RowI26 0x50000000#32 .b ∧ RowI26 0x54000000#32 .bl ∧ Row2RI16 0x4C000000#32 .jirl ∧
  ∀ (s : State) (rd rj : RegNo) (offs16 : BitVec 16) (offs26 : BitVec 26),
    JumpsTo (.b offs26) s (s.pc + BitVec.ofInt 32 (4 * offs26.toInt)) ∧
    LinksAndJumps (.bl offs26) s 1 (s.pc + BitVec.ofInt 32 (4 * offs26.toInt)) ∧
    LinksAndJumps (.jirl rd rj offs16) s rd (readGpr rj s + BitVec.ofInt 32 (4 * offs16.toInt))

/-! ### Loads and stores (44_load_store.md, 45_atomic_barrier.md, 49_fp_move_branch_mem.md section 6) -/

/-- The loads: encoding; ALE, refusal or result, little-endian, and frame (R176 to R180, R337). FLD.S leaves the upper half open
(decision D21). That FLD.D raises ALE unless its address is a multiple of 8 is the spec's decision D7 (20_memory.md R64, log 24). -/
def Obligations.LoadResults : Prop :=
  Row2RI12 0x28000000#32 .ldB ∧ Row2RI12 0x28400000#32 .ldH ∧ Row2RI12 0x28800000#32 .ldW ∧
  Row2RI12 0x2A000000#32 .ldBu ∧ Row2RI12 0x2A400000#32 .ldHu ∧ Row2RI12 0x2B000000#32 .fldS ∧
  Row2RI12 0x2B800000#32 .fldD ∧
  ∀ (s : State) (rd rj : RegNo) (fd : FprNo) (si12 : BitVec 12) (vaddr : Word) (byte : Nat → Byte),
    vaddr = readGpr rj s + si12.signExtend 32 → (∀ k, byte k = byteAt (vaddr + BitVec.ofNat 32 k) s) →
    AccessEnds (.ldB rd rj si12) s 1 vaddr (WritesGpr (.ldB rd rj si12) s rd ((byte 0).signExtend 32)) ∧
    AccessEnds (.ldH rd rj si12) s 2 vaddr
      (WritesGpr (.ldH rd rj si12) s rd ((byte 1 ++ byte 0 : BitVec (8 + 8)).signExtend 32)) ∧
    AccessEnds (.ldW rd rj si12) s 4 vaddr
      (WritesGpr (.ldW rd rj si12) s rd (byte 3 ++ byte 2 ++ byte 1 ++ byte 0 : BitVec (8 + 8 + 8 + 8))) ∧
    AccessEnds (.ldBu rd rj si12) s 1 vaddr (WritesGpr (.ldBu rd rj si12) s rd ((byte 0).setWidth 32)) ∧
    AccessEnds (.ldHu rd rj si12) s 2 vaddr
      (WritesGpr (.ldHu rd rj si12) s rd ((byte 1 ++ byte 0 : BitVec (8 + 8)).setWidth 32)) ∧
    AccessEnds (.fldS fd rj si12) s 4 vaddr
      (WritesFprLow (.fldS fd rj si12) s fd (byte 3 ++ byte 2 ++ byte 1 ++ byte 0 : BitVec (8 + 8 + 8 + 8))) ∧
    AccessEnds (.fldD fd rj si12) s 8 vaddr
      (WritesFpr (.fldD fd rj si12) s fd
        (byte 7 ++ byte 6 ++ byte 5 ++ byte 4 ++ byte 3 ++ byte 2 ++ byte 1 ++ byte 0 :
          BitVec (8 + 8 + 8 + 8 + 8 + 8 + 8 + 8)))

/-- The stores: encoding; ALE, refusal or the low bytes of the register stored at `vaddr`, and frame (R181 to R183, R339). That
FST.D raises ALE unless its address is a multiple of 8 is the spec's decision D7 (20_memory.md R64), and that the stored bytes join
`dirty` its decision D17 (20_memory.md R77; log 24). -/
def Obligations.StoreResults : Prop :=
  Row2RI12 0x29000000#32 .stB ∧ Row2RI12 0x29400000#32 .stH ∧ Row2RI12 0x29800000#32 .stW ∧
  Row2RI12 0x2B400000#32 .fstS ∧ Row2RI12 0x2BC00000#32 .fstD ∧
  ∀ (s : State) (rd rj : RegNo) (fd : FprNo) (si12 : BitVec 12) (vaddr : Word),
    vaddr = readGpr rj s + si12.signExtend 32 →
    AccessEnds (.stB rd rj si12) s 1 vaddr (StoresBytes (.stB rd rj si12) s 1 vaddr ((readGpr rd s).setWidth 64)) ∧
    AccessEnds (.stH rd rj si12) s 2 vaddr (StoresBytes (.stH rd rj si12) s 2 vaddr ((readGpr rd s).setWidth 64)) ∧
    AccessEnds (.stW rd rj si12) s 4 vaddr (StoresBytes (.stW rd rj si12) s 4 vaddr ((readGpr rd s).setWidth 64)) ∧
    AccessEnds (.fstS fd rj si12) s 4 vaddr (StoresBytes (.fstS fd rj si12) s 4 vaddr (readFpr fd s)) ∧
    AccessEnds (.fstD fd rj si12) s 8 vaddr (StoresBytes (.fstD fd rj si12) s 8 vaddr (readFpr fd s))

/-- PRELD and DBAR only advance the pc, PRELD at every address; IBAR also empties `dirty` (R184, R193, R194). -/
def Obligations.PrefetchAndBarriers : Prop :=
  Row2RI12 0x2AC00000#32 .preld ∧ RowCode15 0x38720000#32 .dbar ∧ RowCode15 0x38728000#32 .ibar ∧
  ∀ (s : State) (hint5 : BitVec 5) (hint : BitVec 15) (rj : RegNo) (si12 : BitVec 12),
    JumpsTo (.preld hint5 rj si12) s (s.pc + 4) ∧ JumpsTo (.dbar hint) s (s.pc + 4) ∧
    exec (.ibar hint) s = .next { s with pc := s.pc + 4, dirty := [] }

/-- LL.W: encoding; ALE, refusal, or the word loaded and LLbit 1, and frame (R190). -/
def Obligations.LoadLinkedResult : Prop :=
  Row2RI14 0x20000000#32 .llW ∧
  ∀ (s : State) (rd rj : RegNo) (si14 : BitVec 14) (vaddr : Word) (byte : Nat → Byte),
    vaddr = readGpr rj s + BitVec.ofInt 32 (4 * si14.toInt) → (∀ k, byte k = byteAt (vaddr + BitVec.ofNat 32 k) s) →
    AccessEnds (.llW rd rj si14) s 4 vaddr (∃ t, exec (.llW rd rj si14) s = .next t ∧
      GprWritten rd (byte 3 ++ byte 2 ++ byte 1 ++ byte 0 : BitVec (8 + 8 + 8 + 8)) s t ∧ t.llbit = true ∧
      t.pc = s.pc + 4 ∧ FprsKept s t ∧ FlagsKept s t ∧ t.fcsr0 = s.fcsr0 ∧ MemKept s t ∧ ModeKept s t)

/-- SC.W: encoding; ALE and the refusal before LLbit is read; with LLbit 1 the old `x[rd]` is stored and `x[rd] <- 1`, with
LLbit 0 memory is kept and `x[rd] <- 0`; then LLbit is 0; frame (R191). -/
def Obligations.StoreConditionalResult : Prop :=
  Row2RI14 0x21000000#32 .scW ∧
  ∀ (s : State) (rd rj : RegNo) (si14 : BitVec 14) (vaddr : Word),
    vaddr = readGpr rj s + BitVec.ofInt 32 (4 * si14.toInt) →
    AccessEnds (.scW rd rj si14) s 4 vaddr (∃ t, exec (.scW rd rj si14) s = .next t ∧
      (s.llbit = true → GprWritten rd 1 s t ∧ BytesStored 4 vaddr ((readGpr rd s).setWidth 64) s t) ∧
      (s.llbit = false → GprWritten rd 0 s t ∧ MemKept s t) ∧ t.llbit = false ∧
      t.pc = s.pc + 4 ∧ FprsKept s t ∧ FlagsKept s t ∧ t.fcsr0 = s.fcsr0 ∧ ModeKept s t)

/-! ### System (46_system_privileged.md) -/

/-- SYSCALL and BREAK trap with their code in every state, and change nothing (R200, R201). -/
def Obligations.SyscallAndBreakTrap : Prop :=
  RowCode15 0x002B0000#32 .syscall ∧ RowCode15 0x002A0000#32 .brk ∧
  ∀ (s : State) (code : BitVec 15), exec (.syscall code) s = .fault (.sys code s) ∧ exec (.brk code) s = .fault (.brk code s)

/-- The counter reads: encoding (but the word 0x00006000, which both rows match and either way only advances the pc), some
value or COUNTER_ID written, frame (R203 to R205). -/
def Obligations.CounterReads : Prop :=
  (∀ w : Word, w ≠ 0x00006000#32 → w &&& 0xFFFFFFE0#32 = 0x00006000#32 → decode w = .ok (.rdcntvlW (w.extractLsb' 0 5))) ∧
  (∀ w : Word, w &&& 0xFFFFFFE0#32 = 0x00006400#32 → decode w = .ok (.rdcntvhW (w.extractLsb' 0 5))) ∧
  (∀ w : Word, w &&& 0xFFFFFC1F#32 = 0x00006000#32 → decode w = .ok (.rdcntid (w.extractLsb' 5 5))) ∧
  (∀ s : State, JumpsTo (.rdcntid 0) s (s.pc + 4) ∧ JumpsTo (.rdcntvlW 0) s (s.pc + 4)) ∧
  ∀ (s : State) (r : RegNo),
    (∃ v, WritesGpr (.rdcntvlW r) s r v) ∧ (∃ v, WritesGpr (.rdcntvhW r) s r v) ∧
    WritesGpr (.rdcntid r) s r Config.counterId

/-- The instructions whose semantics are not in the source: their words, IPE with the word at PLV3 and a refusal at PLV0; CACOP
is refused at both (R208 to R218). -/
def Obligations.PrivilegedWords : Prop :=
  ∀ (w : Word) (s : State),
    ((w &&& 0xFF0003E0#32 = 0x04000000#32 ∨ w &&& 0xFF0003E0#32 = 0x04000020#32 ∨
        (w &&& 0xFF000000#32 = 0x04000000#32 ∧ 2 ≤ (w.extractLsb' 5 5).toNat) ∨
        w = 0x06482800#32 ∨ w = 0x06482C00#32 ∨ w = 0x06483000#32 ∨ w = 0x06483400#32 ∨ w = 0x06483800#32 ∨
        w &&& 0xFFFF8000#32 = 0x06488000#32 ∨ w &&& 0xFFFF8000#32 = 0x06498000#32) →
      (s.plv = .plv3 → runWord exec w s = .fault (.ipe w s)) ∧
      (s.plv = .plv0 → runWord exec w s = .refused (.noSemantics w))) ∧
    (w &&& 0xFFC00000#32 = 0x06000000#32 → runWord exec w s = .refused (.noSemantics w))

/-! ### Floating-point instructions (47_fp_arith.md, 48_fp_cmp_cvt.md): each is the operation of its name, ended by R233 -/

/-- FADD, FSUB, FMUL and FDIV: encoding; the operation on the operands in the rounding mode, ended by R233, the result written by
R235 (R240 to R247). -/
def Obligations.ArithmeticEndsByR233 : Prop :=
  Row3R 0x01008000#32 .faddS ∧ Row3R 0x01010000#32 .faddD ∧ Row3R 0x01028000#32 .fsubS ∧ Row3R 0x01030000#32 .fsubD ∧
  Row3R 0x01048000#32 .fmulS ∧ Row3R 0x01050000#32 .fmulD ∧ Row3R 0x01068000#32 .fdivS ∧ Row3R 0x01070000#32 .fdivD ∧
  ∀ (s : State) (fd fj fk : FprNo) (a b : DWord),
    a = ((readFpr fj s).extractLsb' 0 32).setWidth 64 → b = ((readFpr fk s).extractLsb' 0 32).setWidth 64 →
    EndsByR233 (.faddS fd fj fk) s (fpAdd .single (fpEnv s) a b).exc (ResultS fd (fpAdd .single (fpEnv s) a b).res) ∧
    EndsByR233 (.fsubS fd fj fk) s (fpSub .single (fpEnv s) a b).exc (ResultS fd (fpSub .single (fpEnv s) a b).res) ∧
    EndsByR233 (.fmulS fd fj fk) s (fpMul .single (fpEnv s) a b).exc (ResultS fd (fpMul .single (fpEnv s) a b).res) ∧
    EndsByR233 (.fdivS fd fj fk) s (fpDiv .single (fpEnv s) a b).exc (ResultS fd (fpDiv .single (fpEnv s) a b).res) ∧
    EndsByR233 (.faddD fd fj fk) s (fpAdd .double (fpEnv s) (readFpr fj s) (readFpr fk s)).exc
      (ResultD fd (fpAdd .double (fpEnv s) (readFpr fj s) (readFpr fk s)).res) ∧
    EndsByR233 (.fsubD fd fj fk) s (fpSub .double (fpEnv s) (readFpr fj s) (readFpr fk s)).exc
      (ResultD fd (fpSub .double (fpEnv s) (readFpr fj s) (readFpr fk s)).res) ∧
    EndsByR233 (.fmulD fd fj fk) s (fpMul .double (fpEnv s) (readFpr fj s) (readFpr fk s)).exc
      (ResultD fd (fpMul .double (fpEnv s) (readFpr fj s) (readFpr fk s)).res) ∧
    EndsByR233 (.fdivD fd fj fk) s (fpDiv .double (fpEnv s) (readFpr fj s) (readFpr fk s)).exc
      (ResultD fd (fpDiv .double (fpEnv s) (readFpr fj s) (readFpr fk s)).res)

/-- FMADD, FMSUB, FNMADD and FNMSUB: encoding; one fused operation, the addend negated in FMSUB and FNMSUB, the rounded result
negated in FNMADD and FNMSUB, ended by R233 (R248 to R255). -/
def Obligations.FusedEndsByR233 : Prop :=
  Row4R 0x08100000#32 .fmaddS ∧ Row4R 0x08200000#32 .fmaddD ∧ Row4R 0x08500000#32 .fmsubS ∧ Row4R 0x08600000#32 .fmsubD ∧
  Row4R 0x08900000#32 .fnmaddS ∧ Row4R 0x08A00000#32 .fnmaddD ∧ Row4R 0x08D00000#32 .fnmsubS ∧
  Row4R 0x08E00000#32 .fnmsubD ∧
  ∀ (s : State) (fd fj fk fa : FprNo) (a b c a' b' c' : DWord),
    a = ((readFpr fj s).extractLsb' 0 32).setWidth 64 → b = ((readFpr fk s).extractLsb' 0 32).setWidth 64 →
    c = ((readFpr fa s).extractLsb' 0 32).setWidth 64 →
    a' = readFpr fj s → b' = readFpr fk s → c' = readFpr fa s →
    EndsByR233 (.fmaddS fd fj fk fa) s (fpFma .fmadd .single (fpEnv s) false a b c).exc
      (ResultS fd (fpFma .fmadd .single (fpEnv s) false a b c).res) ∧
    EndsByR233 (.fmsubS fd fj fk fa) s (fpFma .fmsub .single (fpEnv s) true a b c).exc
      (ResultS fd (fpFma .fmsub .single (fpEnv s) true a b c).res) ∧
    EndsByR233 (.fnmaddS fd fj fk fa) s (fpFma .fnmadd .single (fpEnv s) false a b c).exc
      (ResultS fd ((fpFma .fnmadd .single (fpEnv s) false a b c).negated .single).res) ∧
    EndsByR233 (.fnmsubS fd fj fk fa) s (fpFma .fnmsub .single (fpEnv s) true a b c).exc
      (ResultS fd ((fpFma .fnmsub .single (fpEnv s) true a b c).negated .single).res) ∧
    EndsByR233 (.fmaddD fd fj fk fa) s (fpFma .fmadd .double (fpEnv s) false a' b' c').exc
      (ResultD fd (fpFma .fmadd .double (fpEnv s) false a' b' c').res) ∧
    EndsByR233 (.fmsubD fd fj fk fa) s (fpFma .fmsub .double (fpEnv s) true a' b' c').exc
      (ResultD fd (fpFma .fmsub .double (fpEnv s) true a' b' c').res) ∧
    EndsByR233 (.fnmaddD fd fj fk fa) s (fpFma .fnmadd .double (fpEnv s) false a' b' c').exc
      (ResultD fd ((fpFma .fnmadd .double (fpEnv s) false a' b' c').negated .double).res) ∧
    EndsByR233 (.fnmsubD fd fj fk fa) s (fpFma .fnmsub .double (fpEnv s) true a' b' c').exc
      (ResultD fd ((fpFma .fnmsub .double (fpEnv s) true a' b' c').negated .double).res)

/-- FMAX, FMIN, FMAXA and FMINA: encoding; the operation on the operands, ended by R233 (R256 to R263). -/
def Obligations.MaxMinEndsByR233 : Prop :=
  Row3R 0x01088000#32 .fmaxS ∧ Row3R 0x01090000#32 .fmaxD ∧ Row3R 0x010A8000#32 .fminS ∧ Row3R 0x010B0000#32 .fminD ∧
  Row3R 0x010C8000#32 .fmaxaS ∧ Row3R 0x010D0000#32 .fmaxaD ∧ Row3R 0x010E8000#32 .fminaS ∧ Row3R 0x010F0000#32 .fminaD ∧
  ∀ (s : State) (fd fj fk : FprNo) (a b a' b' : DWord),
    a = ((readFpr fj s).extractLsb' 0 32).setWidth 64 → b = ((readFpr fk s).extractLsb' 0 32).setWidth 64 →
    a' = readFpr fj s → b' = readFpr fk s →
    EndsByR233 (.fmaxS fd fj fk) s (fpMaxMin .maxNum .single false false a b).exc
      (ResultS fd (fpMaxMin .maxNum .single false false a b).res) ∧
    EndsByR233 (.fminS fd fj fk) s (fpMaxMin .minNum .single true false a b).exc
      (ResultS fd (fpMaxMin .minNum .single true false a b).res) ∧
    EndsByR233 (.fmaxaS fd fj fk) s (fpMaxMin .maxNumMag .single false true a b).exc
      (ResultS fd (fpMaxMin .maxNumMag .single false true a b).res) ∧
    EndsByR233 (.fminaS fd fj fk) s (fpMaxMin .minNumMag .single true true a b).exc
      (ResultS fd (fpMaxMin .minNumMag .single true true a b).res) ∧
    EndsByR233 (.fmaxD fd fj fk) s (fpMaxMin .maxNum .double false false a' b').exc
      (ResultD fd (fpMaxMin .maxNum .double false false a' b').res) ∧
    EndsByR233 (.fminD fd fj fk) s (fpMaxMin .minNum .double true false a' b').exc
      (ResultD fd (fpMaxMin .minNum .double true false a' b').res) ∧
    EndsByR233 (.fmaxaD fd fj fk) s (fpMaxMin .maxNumMag .double false true a' b').exc
      (ResultD fd (fpMaxMin .maxNumMag .double false true a' b').res) ∧
    EndsByR233 (.fminaD fd fj fk) s (fpMaxMin .minNumMag .double true true a' b').exc
      (ResultD fd (fpMaxMin .minNumMag .double true true a' b').res)

/-- FSQRT, FRECIP and FRSQRT: encoding; the square root, the quotient of 1.0, and the quotient of 1.0 by the square root with the
exceptions of both, ended by R233 (R268 to R273; FRECIP and FRSQRT as the source composes them, log 16). -/
def Obligations.RootAndReciprocalEndByR233 : Prop :=
  Row2R 0x01144400#32 .fsqrtS ∧ Row2R 0x01144800#32 .fsqrtD ∧ Row2R 0x01145400#32 .frecipS ∧ Row2R 0x01145800#32 .frecipD ∧
  Row2R 0x01146400#32 .frsqrtS ∧ Row2R 0x01146800#32 .frsqrtD ∧
  ∀ (s : State) (fd fj : FprNo) (a a' : DWord),
    a = ((readFpr fj s).extractLsb' 0 32).setWidth 64 → a' = readFpr fj s →
    EndsByR233 (.fsqrtS fd fj) s (fpSqrt .single (fpEnv s) a).exc (ResultS fd (fpSqrt .single (fpEnv s) a).res) ∧
    EndsByR233 (.fsqrtD fd fj) s (fpSqrt .double (fpEnv s) a').exc (ResultD fd (fpSqrt .double (fpEnv s) a').res) ∧
    EndsByR233 (.frecipS fd fj) s (fpDiv .single (fpEnv s) 0x3F800000#64 a).exc
      (ResultS fd (fpDiv .single (fpEnv s) 0x3F800000#64 a).res) ∧
    EndsByR233 (.frecipD fd fj) s (fpDiv .double (fpEnv s) 0x3FF0000000000000#64 a').exc
      (ResultD fd (fpDiv .double (fpEnv s) 0x3FF0000000000000#64 a').res) ∧
    (∀ t, (fpSqrt .single (fpEnv s) a).res = .bits t →
      EndsByR233 (.frsqrtS fd fj) s
        ((fpSqrt .single (fpEnv s) a).exc ||| (fpDiv .single (fpEnv s) 0x3F800000#64 t).exc)
        (ResultS fd (fpDiv .single (fpEnv s) 0x3F800000#64 t).res)) ∧
    ((fpSqrt .single (fpEnv s) a).res = .quietNan →
      EndsByR233 (.frsqrtS fd fj) s (fpSqrt .single (fpEnv s) a).exc (ResultS fd .quietNan)) ∧
    (∀ t, (fpSqrt .double (fpEnv s) a').res = .bits t →
      EndsByR233 (.frsqrtD fd fj) s
        ((fpSqrt .double (fpEnv s) a').exc ||| (fpDiv .double (fpEnv s) 0x3FF0000000000000#64 t).exc)
        (ResultD fd (fpDiv .double (fpEnv s) 0x3FF0000000000000#64 t).res)) ∧
    ((fpSqrt .double (fpEnv s) a').res = .quietNan →
      EndsByR233 (.frsqrtD fd fj) s (fpSqrt .double (fpEnv s) a').exc (ResultD fd .quietNan))

/-- FCVT and FFINT: encoding; the conversion of the operand, ended by R233 (R295 to R298). -/
def Obligations.ConversionsEndByR233 : Prop :=
  Row2R 0x01191800#32 .fcvtSD ∧ Row2R 0x01192400#32 .fcvtDS ∧ Row2R 0x011D1000#32 .ffintSW ∧ Row2R 0x011D2000#32 .ffintDW ∧
  ∀ (s : State) (fd fj : FprNo) (lo : Word), lo = (readFpr fj s).extractLsb' 0 32 →
    EndsByR233 (.fcvtSD fd fj) s (fpConvert .single .double (fpEnv s) (readFpr fj s)).exc
      (ResultS fd (fpConvert .single .double (fpEnv s) (readFpr fj s)).res) ∧
    EndsByR233 (.fcvtDS fd fj) s (fpConvert .double .single (fpEnv s) (lo.setWidth 64)).exc
      (ResultD fd (fpConvert .double .single (fpEnv s) (lo.setWidth 64)).res) ∧
    EndsByR233 (.ffintSW fd fj) s (fpFromInt .single (fpEnv s) lo.toInt).exc
      (ResultS fd (fpFromInt .single (fpEnv s) lo.toInt).res) ∧
    EndsByR233 (.ffintDW fd fj) s (fpFromInt .double (fpEnv s) lo.toInt).exc
      (ResultD fd (fpFromInt .double (fpEnv s) lo.toInt).res)

/-- The ten FTINT forms: encoding; the conversion to an integer in the mode of the form, or of RM, ended by R233 with the result
in the low half and the upper half open (R300 to R309). -/
def Obligations.IntegerConversionsEndByR233 : Prop :=
  Row2R 0x011B0400#32 .ftintWS ∧ Row2R 0x011B0800#32 .ftintWD ∧ Row2R 0x011A0400#32 .ftintrmWS ∧
  Row2R 0x011A0800#32 .ftintrmWD ∧ Row2R 0x011A4400#32 .ftintrpWS ∧ Row2R 0x011A4800#32 .ftintrpWD ∧
  Row2R 0x011A8400#32 .ftintrzWS ∧ Row2R 0x011A8800#32 .ftintrzWD ∧ Row2R 0x011AC400#32 .ftintrneWS ∧
  Row2R 0x011AC800#32 .ftintrneWD ∧
  ∀ (s : State) (fd fj : FprNo) (i : Instr) (r : Word × FpExc) (single double : RoundMode → Word × FpExc),
    single = (fun mode => toSint32 .single mode (((readFpr fj s).extractLsb' 0 32).setWidth 64)) →
    double = (fun mode => toSint32 .double mode (readFpr fj s)) →
    (i, r) ∈ [(Instr.ftintWS fd fj, single (roundModeOf (s.fcsr0.extractLsb' 8 2))),
      (.ftintWD fd fj, double (roundModeOf (s.fcsr0.extractLsb' 8 2))),
      (.ftintrmWS fd fj, single .rm), (.ftintrmWD fd fj, double .rm),
      (.ftintrpWS fd fj, single .rp), (.ftintrpWD fd fj, double .rp),
      (.ftintrzWS fd fj, single .rz), (.ftintrzWD fd fj, double .rz),
      (.ftintrneWS fd fj, single .rne), (.ftintrneWD fd fj, double .rne)] →
    EndsByR233 i s r.2 (fun s t => FlagsKept s t ∧ FprLowWritten fd r.1 s t)

/-- FCMP: encoding; a listed condition writes whether the relation of the operands is in its true set, raises V for a signaling
NaN, and for any NaN if `cond[0] = 1`, and ends by R233; an unlisted condition is refused (R292 to R294). -/
def Obligations.CompareEndsByR233 : Prop :=
  RowFcmp 0x0C100000#32 .fcmpS ∧ RowFcmp 0x0C200000#32 .fcmpD ∧
  ∀ (s : State) (cond : BitVec 5) (cd : CfNo) (fj fk : FprNo) (i : Instr) (a b : FpValue),
    (i, a, b) ∈ [(Instr.fcmpS cond cd fj fk, unpack .single (((readFpr fj s).extractLsb' 0 32).setWidth 64),
        unpack .single (((readFpr fk s).extractLsb' 0 32).setWidth 64)),
      (.fcmpD cond cd fj fk, unpack .double (readFpr fj s), unpack .double (readFpr fk s))] →
    (cond ∈ [0x12#5, 0x13#5, 0x16#5, 0x17#5, 0x1A#5, 0x1B#5, 0x1C#5, 0x1D#5, 0x1E#5, 0x1F#5] →
      exec i s = .refused (.fcmpCond cond)) ∧
    (∀ trueSet signaling, fcmpCondition cond = some (trueSet, signaling) →
      EndsByR233 i s
        (if a.isSignaling ∨ b.isSignaling ∨ (cond.getLsbD 0 ∧ (a.isNan ∨ b.isNan)) then 0b10000#5 else 0)
        (fun s t => FprsKept s t ∧ FccWritten cd (decide (compareValues a b ∈ trueSet)) s t))

/-- The condition table: 22 of the 32 conditions are listed, and for each the bitwise reading holds: `cond[0]` says whether a
quiet NaN raises V, `cond[1]` to `cond[4]` select LT, EQ, UN and both LT and GT (R291). -/
def Obligations.ConditionTableBits : Prop :=
  ∀ cond : BitVec 5,
    ((fcmpCondition cond).isNone ↔
      cond ∈ [0x12#5, 0x13#5, 0x16#5, 0x17#5, 0x1A#5, 0x1B#5, 0x1C#5, 0x1D#5, 0x1E#5, 0x1F#5]) ∧
    ∀ trueSet signaling, fcmpCondition cond = some (trueSet, signaling) →
      signaling = cond.getLsbD 0 ∧
      (.lt ∈ trueSet ↔ cond.getLsbD 1 ∨ cond.getLsbD 4) ∧ (.eq ∈ trueSet ↔ cond.getLsbD 2) ∧
      (.un ∈ trueSet ↔ cond.getLsbD 3) ∧ (.gt ∈ trueSet ↔ cond.getLsbD 4)

/-- The relation of two values is UN exactly if one is a NaN; of finite values it is the order of their rational values, so +0
and -0 are equal; infinities are the extremes (R290). -/
def Obligations.CompareRelation : Prop :=
  ∀ (fmt : FpFormat) (a b : DWord),
    (compareValues (unpack fmt a) (unpack fmt b) = .un ↔ (unpack fmt a).isNan ∨ (unpack fmt b).isNan) ∧
    (∀ x y, valueOf fmt a = some x → valueOf fmt b = some y →
      (compareValues (unpack fmt a) (unpack fmt b) = .lt ↔ x < y) ∧
      (compareValues (unpack fmt a) (unpack fmt b) = .gt ↔ y < x) ∧
      (compareValues (unpack fmt a) (unpack fmt b) = .eq ↔ x = y)) ∧
    (∀ n x, unpack fmt a = .inf n → valueOf fmt b = some x →
      compareValues (unpack fmt a) (unpack fmt b) = (if n then .lt else .gt) ∧
      compareValues (unpack fmt b) (unpack fmt a) = (if n then .gt else .lt)) ∧
    (∀ n m, unpack fmt a = .inf n → unpack fmt b = .inf m →
      compareValues (unpack fmt a) (unpack fmt b) = if n = m then .eq else if n then .lt else .gt)

/-- FABS, FNEG and FCOPYSIGN act on the sign bit only, on every bit pattern, and leave fcsr0 as it was: encoding, result, frame
(R264 to R267, R274, R275). -/
def Obligations.SignOperations : Prop :=
  Row2R 0x01140400#32 .fabsS ∧ Row2R 0x01140800#32 .fabsD ∧ Row2R 0x01141400#32 .fnegS ∧ Row2R 0x01141800#32 .fnegD ∧
  Row3R 0x01128000#32 .fcopysignS ∧ Row3R 0x01130000#32 .fcopysignD ∧
  ∀ (s : State) (fd fj fk : FprNo) (a b : Word) (a' b' : DWord),
    a = (readFpr fj s).extractLsb' 0 32 → b = (readFpr fk s).extractLsb' 0 32 → a' = readFpr fj s → b' = readFpr fk s →
    WritesFprLow (.fabsS fd fj) s fd (a &&& 0x7FFFFFFF#32) ∧
    WritesFpr (.fabsD fd fj) s fd (a' &&& 0x7FFFFFFFFFFFFFFF#64) ∧
    WritesFprLow (.fnegS fd fj) s fd (a ^^^ 0x80000000#32) ∧
    WritesFpr (.fnegD fd fj) s fd (a' ^^^ 0x8000000000000000#64) ∧
    WritesFprLow (.fcopysignS fd fj fk) s fd ((b &&& 0x80000000#32) ||| (a &&& 0x7FFFFFFF#32)) ∧
    WritesFpr (.fcopysignD fd fj fk) s fd ((b' &&& 0x8000000000000000#64) ||| (a' &&& 0x7FFFFFFFFFFFFFFF#64))

/-- FCLASS writes a one-hot mask below 2^10 and leaves fcsr0 as it was: encoding, frame. The table of the bits is the model's
choice (log 15): bits 0 and 1 are the NaNs, 2 to 5 the negative values and 6 to 9 the positive ones. -/
def Obligations.ClassifyResults : Prop :=
  Row2R 0x01143400#32 .fclassS ∧ Row2R 0x01143800#32 .fclassD ∧
  (∀ (fmt : FpFormat) (w : DWord), ∃ k, k < 10 ∧ fpClass fmt w = BitVec.ofNat 10 (2 ^ k) ∧
    (k < 2 ↔ (unpack fmt w).isNan) ∧ (k = 0 ↔ (unpack fmt w).isSignaling) ∧
    (∀ n, unpack fmt w = .inf n → k = if n then 2 else 6) ∧
    (∀ x, valueOf fmt w = some x →
      (k = 3 ↔ x ≤ -minNormal fmt) ∧ (k = 4 ↔ -minNormal fmt < x ∧ x < 0) ∧
      (k = 5 ↔ x = 0 ∧ signField fmt w = true) ∧ (k = 9 ↔ x = 0 ∧ signField fmt w = false) ∧
      (k = 8 ↔ 0 < x ∧ x < minNormal fmt) ∧ (k = 7 ↔ minNormal fmt ≤ x))) ∧
  ∀ (s : State) (fd fj : FprNo),
    WritesFprLow (.fclassS fd fj) s fd
      ((fpClass .single (((readFpr fj s).extractLsb' 0 32).setWidth 64)).setWidth 32) ∧
    WritesFpr (.fclassD fd fj) s fd ((fpClass .double (readFpr fj s)).setWidth 64)

/-! ### Moves and fcsr0 (49_fp_move_branch_mem.md) -/

/-- The moves between registers and flags and FSEL: encoding, the bits moved, frame (R321 to R324, R326, R327, R329 to R331). That
MOVGR2FRH.W keeps the lower half, and that the other 32-bit writes leave the upper half open, is the spec's decision D21
(10_state.md R33, log 24). -/
def Obligations.MoveResults : Prop :=
  Row2R 0x01149400#32 .fmovS ∧ Row2R 0x01149800#32 .fmovD ∧
  (∀ w : Word, w &&& 0xFFFC0000#32 = 0x0D000000#32 →
    decode w = .ok (.fsel (w.extractLsb' 0 5) (w.extractLsb' 5 5) (w.extractLsb' 10 5) (w.extractLsb' 15 3))) ∧
  Row2R 0x0114A400#32 .movgr2frW ∧ Row2R 0x0114AC00#32 .movgr2frhW ∧ Row2R 0x0114B400#32 .movfr2grS ∧
  Row2R 0x0114BC00#32 .movfrh2grS ∧ RowToFlag 0x0114D000#32 .movfr2cf ∧ RowFromFlag 0x0114D400#32 .movcf2fr ∧
  RowToFlag 0x0114D800#32 .movgr2cf ∧ RowFromFlag 0x0114DC00#32 .movcf2gr ∧
  ∀ (s : State) (fd fj fk : FprNo) (rd rj : RegNo) (c : CfNo),
    WritesFprLow (.fmovS fd fj) s fd ((readFpr fj s).extractLsb' 0 32) ∧
    WritesFpr (.fmovD fd fj) s fd (readFpr fj s) ∧
    WritesFpr (.fsel fd fj fk c) s fd (if readFcc c s = true then readFpr fk s else readFpr fj s) ∧
    WritesFprLow (.movgr2frW fd rj) s fd (readGpr rj s) ∧
    WritesFpr (.movgr2frhW fd rj) s fd (readGpr rj s ++ (readFpr fd s).extractLsb' 0 32 : BitVec (32 + 32)) ∧
    WritesGpr (.movfr2grS rd fj) s rd ((readFpr fj s).extractLsb' 0 32) ∧
    WritesGpr (.movfrh2grS rd fj) s rd ((readFpr fj s).extractLsb' 32 32) ∧
    WritesFcc (.movfr2cf c fj) s c ((readFpr fj s).getLsbD 0) ∧
    WritesFpr (.movcf2fr fd c) s fd (if readFcc c s = true then 1 else 0) ∧
    WritesFcc (.movgr2cf c rj) s c ((readGpr rj s).getLsbD 0) ∧
    WritesGpr (.movcf2gr rd c) s rd (if readFcc c s = true then 1 else 0)

/-- MOVGR2FCSR and MOVFCSR2GR: encoding; the masked write and read of FCSR0 to FCSR3, frame; an index above 3 is refused (R332 to
R334). -/
def Obligations.FcsrAccess : Prop :=
  Row2R 0x0114C000#32 .movgr2fcsr ∧ Row2R 0x0114C800#32 (fun d j => .movfcsr2gr d j) ∧
  ∀ (s : State) (rd rj : RegNo) (n : BitVec 5),
    (3 < n.toNat → exec (.movgr2fcsr n rj) s = .refused (.fcsrIndex n) ∧
      exec (.movfcsr2gr rd n) s = .refused (.fcsrIndex n)) ∧
    (∀ mask : Word, (n.toNat, mask) ∈ [(0, 0x1F1F031F#32), (1, 0x0000001F#32), (2, 0x1F1F0000#32), (3, 0x00000300#32)] →
      exec (.movgr2fcsr n rj) s =
        .next { s with fcsr0 := (s.fcsr0 &&& ~~~mask) ||| (readGpr rj s &&& mask), pc := s.pc + 4 } ∧
      WritesGpr (.movfcsr2gr rd n) s rd (s.fcsr0 &&& mask))

/-! ### FP_NUMERICS (47_fp_arith.md R231 to R236, 48_fp_cmp_cvt.md R299). It is IEEE 754-2008 as the spec names it (log 9). -/

/-- Rounding: the value `(-1)^neg * m * 2^e` is rounded to the format in the mode, with the exceptions of R232 (R231; IEEE
754-2008, log 9). -/
def Obligations.RoundingIsCorrect : Prop :=
  ∀ (fmt : FpFormat) (env : FpEnv) (neg : Bool) (m : Nat) (e : Int), m ≠ 0 →
    CorrectlyRounded fmt env (finiteValue neg m e : ℚ) (roundFinite fmt env neg m e)

/-- Addition and subtraction of finite values are exact and rounded once; an exact zero sum of operands of opposite sign is +0,
under RM -0, and of operands of one sign it has that sign (R236). -/
def Obligations.AdditionIsExact : Prop :=
  ∀ (fmt : FpFormat) (env : FpEnv) (a b : DWord) (x y : ℚ), valueOf fmt a = some x → valueOf fmt b = some y →
    (x + y ≠ 0 → CorrectlyRounded fmt env (x + y : ℚ) (fpAdd fmt env a b)) ∧
    (x - y ≠ 0 → CorrectlyRounded fmt env (x - y : ℚ) (fpSub fmt env a b)) ∧
    (x + y = 0 → fpAdd fmt env a b =
      zeroResult fmt (if signField fmt a = signField fmt b then signField fmt a else decide (env.mode = .rm))) ∧
    (x - y = 0 → fpSub fmt env a b =
      zeroResult fmt (if signField fmt a ≠ signField fmt b then signField fmt a else decide (env.mode = .rm)))

/-- Multiplication and fused multiply-add of finite values are exact and rounded once; a zero product has the exclusive or of the
signs; a zero fused sum has its sign as in addition (R236). -/
def Obligations.ProductIsExact : Prop :=
  ∀ (fmt : FpFormat) (env : FpEnv) (a b c : DWord) (x y z : ℚ) (op : FpOp),
    valueOf fmt a = some x → valueOf fmt b = some y → valueOf fmt c = some z →
    (x * y ≠ 0 → CorrectlyRounded fmt env (x * y : ℚ) (fpMul fmt env a b)) ∧
    (x * y = 0 → fpMul fmt env a b = zeroResult fmt (signField fmt a != signField fmt b)) ∧
    (x * y + z ≠ 0 →
      CorrectlyRounded fmt env (x * y + z : ℚ) (fpFma op fmt env false a b c)) ∧
    (x * y - z ≠ 0 →
      CorrectlyRounded fmt env (x * y - z : ℚ) (fpFma op fmt env true a b c)) ∧
    (x * y + z = 0 → fpFma op fmt env false a b c =
      zeroResult fmt (if (signField fmt a != signField fmt b) = signField fmt c then signField fmt c
        else decide (env.mode = .rm))) ∧
    (x * y - z = 0 → fpFma op fmt env true a b c =
      zeroResult fmt (if (signField fmt a != signField fmt b) = !signField fmt c then !signField fmt c
        else decide (env.mode = .rm)))

/-- Division of finite values by one that is not 0 is exact and rounded once; a zero quotient has the exclusive or of the signs
(R236). -/
def Obligations.QuotientIsCorrect : Prop :=
  ∀ (fmt : FpFormat) (env : FpEnv) (a b : DWord) (x y : ℚ), valueOf fmt a = some x → valueOf fmt b = some y → y ≠ 0 →
    (x ≠ 0 → CorrectlyRounded fmt env (x / y : ℚ) (fpDiv fmt env a b)) ∧
    (x = 0 → fpDiv fmt env a b = zeroResult fmt (signField fmt a != signField fmt b))

/-- The square root of a positive finite value is correctly rounded (R236). -/
def Obligations.SquareRootIsCorrect : Prop :=
  ∀ (fmt : FpFormat) (env : FpEnv) (a : DWord) (x : ℚ), valueOf fmt a = some x → 0 < x →
    CorrectlyRounded fmt env (Real.sqrt x) (fpSqrt fmt env a)

/-- NaN operands and invalid operations give a quiet NaN, with V exactly if an operand is signaling or the operation is invalid:
inf - inf, 0 * inf, 0 / 0, inf / inf, the root of a value below 0; so does the conversion of a NaN to another format (R232, R234,
48_fp_cmp_cvt.md R295, R296). Whether 0 * inf with a quiet NaN addend raises V is open (log 12). -/
def Obligations.NanAndInvalidResults : Prop :=
  ∀ (fmt : FpFormat) (env : FpEnv) (op : FpOp) (neg : Bool) (a b c : DWord) (va vb vc : FpValue),
    va = unpack fmt a → vb = unpack fmt b → vc = unpack fmt c →
    (va.isNan ∨ vb.isNan → ∀ o ∈ [fpAdd fmt env a b, fpSub fmt env a b, fpMul fmt env a b, fpDiv fmt env a b],
      o = ⟨.quietNan, if va.isSignaling ∨ vb.isSignaling then excV else 0⟩) ∧
    (va.isNan ∨ vb.isNan ∨ vc.isNan → (fpFma op fmt env neg a b c).res = .quietNan ∧
      (va.isSignaling ∨ vb.isSignaling ∨ vc.isSignaling → (fpFma op fmt env neg a b c).exc = excV) ∧
      (¬(va.isSignaling ∨ vb.isSignaling ∨ vc.isSignaling) → va.isNan ∨ vb.isNan ∨ exactProduct va vb ≠ none →
        (fpFma op fmt env neg a b c).exc = 0)) ∧
    (va.isNan → fpSqrt fmt env a = ⟨.quietNan, if va.isSignaling then excV else 0⟩ ∧
      ∀ dst, fpConvert dst fmt env a = ⟨.quietNan, if va.isSignaling then excV else 0⟩) ∧
    (∀ n m, va = .inf n → vb = .inf m →
      (n ≠ m → fpAdd fmt env a b = invalidOperation) ∧ (n = m → fpSub fmt env a b = invalidOperation) ∧
      fpDiv fmt env a b = invalidOperation) ∧
    (∀ n, va = .inf n → valueOf fmt b = some 0 →
      fpMul fmt env a b = invalidOperation ∧ fpMul fmt env b a = invalidOperation ∧
      (vc.isNan = false → fpFma op fmt env neg a b c = invalidOperation ∧ fpFma op fmt env neg b a c = invalidOperation)) ∧
    (∀ p k, exactProduct va vb = some (.inf p) → vc = .inf k → p ≠ (k != neg) →
      fpFma op fmt env neg a b c = invalidOperation) ∧
    (valueOf fmt a = some 0 → valueOf fmt b = some 0 → fpDiv fmt env a b = invalidOperation) ∧
    (∀ x, valueOf fmt a = some x → x < 0 → fpSqrt fmt env a = invalidOperation) ∧
    (va = .inf true → fpSqrt fmt env a = invalidOperation)

/-- Infinities and zeros: sums, products, quotients, fused sums, roots and conversions with an infinite operand, the division of a
finite value other than 0 by 0, which raises Z, and the roots and conversions of the zeros, with their signs (R232, R236,
48_fp_cmp_cvt.md R295). -/
def Obligations.InfinityAndZeroResults : Prop :=
  ∀ (fmt : FpFormat) (env : FpEnv) (a b : DWord) (x : ℚ),
    (∀ n, unpack fmt a = .inf n → valueOf fmt b = some x →
      fpAdd fmt env a b = infResult fmt n ∧ fpAdd fmt env b a = infResult fmt n ∧
      fpSub fmt env a b = infResult fmt n ∧ fpSub fmt env b a = infResult fmt (!n) ∧
      fpDiv fmt env a b = infResult fmt (n != signField fmt b) ∧
      fpDiv fmt env b a = zeroResult fmt (signField fmt b != n) ∧
      (x ≠ 0 → fpMul fmt env a b = infResult fmt (n != signField fmt b) ∧
        fpMul fmt env b a = infResult fmt (n != signField fmt b))) ∧
    (∀ n m, unpack fmt a = .inf n → unpack fmt b = .inf m →
      (n = m → fpAdd fmt env a b = infResult fmt n) ∧ (n ≠ m → fpSub fmt env a b = infResult fmt n) ∧
      fpMul fmt env a b = infResult fmt (n != m)) ∧
    (valueOf fmt a = some x → x ≠ 0 → valueOf fmt b = some 0 →
      fpDiv fmt env a b = ⟨(infResult fmt (signField fmt a != signField fmt b)).res, excZ⟩) ∧
    (∀ op neg c n, (unpack fmt a = .inf n ∨ unpack fmt b = .inf n) →
      (∀ u ∈ [a, b], (unpack fmt u).isNan = false ∧ valueOf fmt u ≠ some 0) →
      (valueOf fmt c ≠ none ∨ unpack fmt c = .inf ((signField fmt a != signField fmt b) != neg)) →
      fpFma op fmt env neg a b c = infResult fmt (signField fmt a != signField fmt b)) ∧
    (∀ op neg c n, valueOf fmt a ≠ none → valueOf fmt b ≠ none → unpack fmt c = .inf n →
      fpFma op fmt env neg a b c = infResult fmt (n != neg)) ∧
    (unpack fmt a = .inf false → fpSqrt fmt env a = infResult fmt false) ∧
    (valueOf fmt a = some 0 → fpSqrt fmt env a = zeroResult fmt (signField fmt a)) ∧
    (∀ dst n, unpack fmt a = .inf n → fpConvert dst fmt env a = infResult dst n) ∧
    (∀ dst, valueOf fmt a = some 0 → fpConvert dst fmt env a = zeroResult dst (signField fmt a)) ∧
    (∀ n, (∃ w, infResult fmt n = ⟨.bits w, 0⟩ ∧ unpack fmt w = .inf n) ∧
      ∃ w, zeroResult fmt n = ⟨.bits w, 0⟩ ∧ valueOf fmt w = some 0 ∧ signField fmt w = n)

/-- For every operation on finite operands whose exact value `v` is not 0. O is raised exactly if `v`, rounded without a bound on
the exponent, exceeds the largest finite number; so it is from the next power of two on and is not up to that number. It comes with
I alone, and the result is an infinity or, where the mode rounds toward zero, the largest finite number. A value not below the
smallest normal number raises no U; a value below it even after rounding raises U exactly if it is inexact or U is enabled. V and Z
are never raised, and a square root raises at most I (R232, R236). -/
def Obligations.OverflowAndUnderflow : Prop :=
  (∀ (fmt : FpFormat) (env : FpEnv) (v : ℚ) (o : FpOut), FiniteOperation fmt env v o → v ≠ 0 →
    (o.exc &&& excO ≠ 0 ↔ Overflows fmt env.mode v) ∧
    (overflowBound fmt ≤ |v| → o.exc &&& excO ≠ 0) ∧
    (|v| ≤ maxFinite fmt → o.exc &&& excO = 0) ∧
    (o.exc &&& excO ≠ 0 → o.exc = excO ||| excI ∧ ∃ w, o.res = .bits w ∧
      if env.mode = .rz ∨ (env.mode = .rp ∧ v < 0) ∨ (env.mode = .rm ∧ 0 < v) then
        valueOf fmt w = some (if v < 0 then -maxFinite fmt else maxFinite fmt)
      else unpack fmt w = .inf (decide (v < 0))) ∧
    (minNormal fmt ≤ |v| → o.exc &&& excU = 0) ∧
    (|v| ≤ (2 ^ ((layout fmt).fracBits + 1) - 1) * (2 : ℚ) ^ (minQuantum fmt - 1) →
      (o.exc &&& excU ≠ 0 ↔ o.exc &&& excI ≠ 0 ∨ env.underflowEnabled = true)) ∧
    o.exc &&& (excV ||| excZ) = 0) ∧
  ∀ (fmt : FpFormat) (env : FpEnv) (a : DWord) (x : ℚ), valueOf fmt a = some x → 0 ≤ x →
    (fpSqrt fmt env a).exc &&& ~~~excI = 0

/-- Maximum and minimum: a signaling NaN gives a quiet NaN with V; of one quiet NaN and another operand the other operand, of two
quiet NaNs a quiet NaN, without exception; otherwise an operand that the other does not exceed, or is not exceeded by, by value or
by magnitude and then value (R236). -/
def Obligations.MaxMinRules : Prop :=
  ∀ (fmt : FpFormat) (op : FpOp) (smaller byMagnitude : Bool) (a b : DWord) (va vb : FpValue) (o : FpOut),
    va = unpack fmt a → vb = unpack fmt b → o = fpMaxMin op fmt smaller byMagnitude a b →
    (va.isSignaling ∨ vb.isSignaling → o = ⟨.quietNan, excV⟩) ∧
    (va = .nan false → vb = .nan false → o = ⟨.quietNan, 0⟩) ∧
    (va = .nan false → vb.isNan = false → o = ⟨.bits b, 0⟩) ∧
    (va.isNan = false → vb = .nan false → o = ⟨.bits a, 0⟩) ∧
    (va.isNan = false → vb.isNan = false → o.exc = 0 ∧ ∃ r other, o.res = .bits r ∧ ((r = a ∧ other = b) ∨ (r = b ∧ other = a)) ∧
      ∀ worse, worse = (if smaller then Relation.gt else .lt) →
        (byMagnitude = false → compareValues (unpack fmt r) (unpack fmt other) ≠ worse) ∧
        (byMagnitude = true →
          compareValues (unpack fmt r).magnitude (unpack fmt other).magnitude ≠ worse ∧
          (compareValues (unpack fmt r).magnitude (unpack fmt other).magnitude = .eq →
            compareValues (unpack fmt r) (unpack fmt other) ≠ worse)))

/-- FCVT.D.S and FFINT.D.W are exact: the result has the operand's value and sign, in every mode, and no exception; FCVT.S.D and
FFINT.S.W round the exact value once, a zero of FCVT.S.D keeps its sign, and the integer 0 gives +0 (R295 to R298). -/
def Obligations.ConversionsAreExact : Prop :=
  ∀ (env : FpEnv) (a : DWord) (n : Int), -2 ^ 31 ≤ n → n < 2 ^ 31 →
    (∀ x, valueOf .single a = some x → ∃ w, fpConvert .double .single env a = ⟨.bits w, 0⟩ ∧ valueOf .double w = some x ∧
      signField .double w = signField .single a) ∧
    (∃ w, fpFromInt .double env n = ⟨.bits w, 0⟩ ∧ valueOf .double w = some (n : ℚ) ∧
      signField .double w = decide (n < 0)) ∧
    (∀ x, valueOf .double a = some x → x ≠ 0 →
      CorrectlyRounded .single env (x : ℝ) (fpConvert .single .double env a)) ∧
    (valueOf .double a = some 0 → fpConvert .single .double env a = zeroResult .single (signField .double a)) ∧
    (n ≠ 0 → CorrectlyRounded .single env ((n : ℚ) : ℝ) (fpFromInt .single env n)) ∧
    (n = 0 → fpFromInt .single env n = zeroResult .single false) ∧
    (fpFromInt .single env n).exc &&& ~~~excI = 0

/-- The conversion to an integer: the finite value is rounded by the mode to the integer `n`; out of range the exception is V,
else the result is `n` and I says whether the value was no integer; a NaN or an infinity raises V (R299). The result of an
invalid conversion is open. -/
def Obligations.ToIntegerIsCorrect : Prop :=
  ∀ (fmt : FpFormat) (mode : RoundMode) (a : DWord),
    (∀ x, valueOf fmt a = some x → ∃ n : Int,
      (match mode with
        | .rm => n = ⌊x⌋
        | .rp => n = ⌈x⌉
        | .rz => n = if x < 0 then ⌈x⌉ else ⌊x⌋
        | .rne => |x - n| ≤ 1 / 2 ∧ (|x - n| = 1 / 2 → n % 2 = 0)) ∧
      (n < -2 ^ 31 ∨ 2 ^ 31 - 1 < n → (toSint32 fmt mode a).2 = excV) ∧
      (-2 ^ 31 ≤ n → n ≤ 2 ^ 31 - 1 → toSint32 fmt mode a = (BitVec.ofInt 32 n, if (n : ℚ) = x then 0 else excI))) ∧
    (valueOf fmt a = none → (toSint32 fmt mode a).2 = excV)

/-! ### Who reads the rounding mode (47_fp_arith.md R231) -/

/-- An instruction that does not round by RM, and is no move from or to fcsr0, does not read RM: with another mode in fcsr0 it ends
the same way, with that mode still there. Of a NaN result not even the open bits depend on it: FCVT.D.S, FMAX and its kin
(48_fp_cmp_cvt.md R296, R298; 47_fp_arith.md R231, R256 to R263). -/
def Obligations.RoundingModeIgnored : Prop :=
  ∀ (i : Instr) (rm : BitVec 2) (s : State), readsRounding i = false →
    exec i (withRounding rm s) = onState (withRounding rm) (exec i s)
end

