-- ==== Sys2Proof/Laws/Encode.lean ====
section
/-! SUPPORT. The fields of an encoded word, slot by slot. -/

namespace Sys2Proof

theorem enc2R_op (op : BitVec 22) (j : BitVec 5) (d : BitVec 5) (lo len : Nat) (h : 10 ≤ lo) (h2 : lo + len ≤ 32) :
    (enc2R op j d).extractLsb' lo len = op.extractLsb' (lo - 10) len := by
  ext b hb
  simp only [enc2R, BitVec.getElem_extractLsb', BitVec.getLsbD_append]
  rw [if_neg (by omega), if_neg (by omega)]
  congr 1; omega

theorem enc2R_j (op : BitVec 22) (j : BitVec 5) (d : BitVec 5) (lo len : Nat) (h : 5 ≤ lo) (h2 : lo + len ≤ 10) :
    (enc2R op j d).extractLsb' lo len = j.extractLsb' (lo - 5) len := by
  ext b hb
  simp only [enc2R, BitVec.getElem_extractLsb', BitVec.getLsbD_append]
  rw [if_neg (by omega), if_pos (by omega)]
  congr 1; omega

theorem enc2R_d (op : BitVec 22) (j : BitVec 5) (d : BitVec 5) (lo len : Nat) (h2 : lo + len ≤ 5) :
    (enc2R op j d).extractLsb' lo len = d.extractLsb' (lo) len := by
  ext b hb
  simp only [enc2R, BitVec.getElem_extractLsb', BitVec.getLsbD_append]
  rw [if_pos (by omega)]

theorem enc3R_op (op : BitVec 17) (k : BitVec 5) (j : BitVec 5) (d : BitVec 5) (lo len : Nat) (h : 15 ≤ lo) (h2 : lo + len ≤ 32) :
    (enc3R op k j d).extractLsb' lo len = op.extractLsb' (lo - 15) len := by
  ext b hb
  simp only [enc3R, BitVec.getElem_extractLsb', BitVec.getLsbD_append]
  rw [if_neg (by omega), if_neg (by omega), if_neg (by omega)]
  congr 1; omega

theorem enc3R_k (op : BitVec 17) (k : BitVec 5) (j : BitVec 5) (d : BitVec 5) (lo len : Nat) (h : 10 ≤ lo) (h2 : lo + len ≤ 15) :
    (enc3R op k j d).extractLsb' lo len = k.extractLsb' (lo - 10) len := by
  ext b hb
  simp only [enc3R, BitVec.getElem_extractLsb', BitVec.getLsbD_append]
  rw [if_neg (by omega), if_neg (by omega), if_pos (by omega)]
  congr 1; omega

theorem enc3R_j (op : BitVec 17) (k : BitVec 5) (j : BitVec 5) (d : BitVec 5) (lo len : Nat) (h : 5 ≤ lo) (h2 : lo + len ≤ 10) :
    (enc3R op k j d).extractLsb' lo len = j.extractLsb' (lo - 5) len := by
  ext b hb
  simp only [enc3R, BitVec.getElem_extractLsb', BitVec.getLsbD_append]
  rw [if_neg (by omega), if_pos (by omega)]
  congr 1; omega

theorem enc3R_d (op : BitVec 17) (k : BitVec 5) (j : BitVec 5) (d : BitVec 5) (lo len : Nat) (h2 : lo + len ≤ 5) :
    (enc3R op k j d).extractLsb' lo len = d.extractLsb' (lo) len := by
  ext b hb
  simp only [enc3R, BitVec.getElem_extractLsb', BitVec.getLsbD_append]
  rw [if_pos (by omega)]

theorem enc4R_op (op : BitVec 12) (a : BitVec 5) (k : BitVec 5) (j : BitVec 5) (d : BitVec 5) (lo len : Nat) (h : 20 ≤ lo) (h2 : lo + len ≤ 32) :
    (enc4R op a k j d).extractLsb' lo len = op.extractLsb' (lo - 20) len := by
  ext b hb
  simp only [enc4R, BitVec.getElem_extractLsb', BitVec.getLsbD_append]
  rw [if_neg (by omega), if_neg (by omega), if_neg (by omega), if_neg (by omega)]
  congr 1; omega

theorem enc4R_a (op : BitVec 12) (a : BitVec 5) (k : BitVec 5) (j : BitVec 5) (d : BitVec 5) (lo len : Nat) (h : 15 ≤ lo) (h2 : lo + len ≤ 20) :
    (enc4R op a k j d).extractLsb' lo len = a.extractLsb' (lo - 15) len := by
  ext b hb
  simp only [enc4R, BitVec.getElem_extractLsb', BitVec.getLsbD_append]
  rw [if_neg (by omega), if_neg (by omega), if_neg (by omega), if_pos (by omega)]
  congr 1; omega

theorem enc4R_k (op : BitVec 12) (a : BitVec 5) (k : BitVec 5) (j : BitVec 5) (d : BitVec 5) (lo len : Nat) (h : 10 ≤ lo) (h2 : lo + len ≤ 15) :
    (enc4R op a k j d).extractLsb' lo len = k.extractLsb' (lo - 10) len := by
  ext b hb
  simp only [enc4R, BitVec.getElem_extractLsb', BitVec.getLsbD_append]
  rw [if_neg (by omega), if_neg (by omega), if_pos (by omega)]
  congr 1; omega

theorem enc4R_j (op : BitVec 12) (a : BitVec 5) (k : BitVec 5) (j : BitVec 5) (d : BitVec 5) (lo len : Nat) (h : 5 ≤ lo) (h2 : lo + len ≤ 10) :
    (enc4R op a k j d).extractLsb' lo len = j.extractLsb' (lo - 5) len := by
  ext b hb
  simp only [enc4R, BitVec.getElem_extractLsb', BitVec.getLsbD_append]
  rw [if_neg (by omega), if_pos (by omega)]
  congr 1; omega

theorem enc4R_d (op : BitVec 12) (a : BitVec 5) (k : BitVec 5) (j : BitVec 5) (d : BitVec 5) (lo len : Nat) (h2 : lo + len ≤ 5) :
    (enc4R op a k j d).extractLsb' lo len = d.extractLsb' (lo) len := by
  ext b hb
  simp only [enc4R, BitVec.getElem_extractLsb', BitVec.getLsbD_append]
  rw [if_pos (by omega)]

theorem enc2RI12_op (op : BitVec 10) (i : BitVec 12) (j : BitVec 5) (d : BitVec 5) (lo len : Nat) (h : 22 ≤ lo) (h2 : lo + len ≤ 32) :
    (enc2RI12 op i j d).extractLsb' lo len = op.extractLsb' (lo - 22) len := by
  ext b hb
  simp only [enc2RI12, BitVec.getElem_extractLsb', BitVec.getLsbD_append]
  rw [if_neg (by omega), if_neg (by omega), if_neg (by omega)]
  congr 1; omega

theorem enc2RI12_i (op : BitVec 10) (i : BitVec 12) (j : BitVec 5) (d : BitVec 5) (lo len : Nat) (h : 10 ≤ lo) (h2 : lo + len ≤ 22) :
    (enc2RI12 op i j d).extractLsb' lo len = i.extractLsb' (lo - 10) len := by
  ext b hb
  simp only [enc2RI12, BitVec.getElem_extractLsb', BitVec.getLsbD_append]
  rw [if_neg (by omega), if_neg (by omega), if_pos (by omega)]
  congr 1; omega

theorem enc2RI12_j (op : BitVec 10) (i : BitVec 12) (j : BitVec 5) (d : BitVec 5) (lo len : Nat) (h : 5 ≤ lo) (h2 : lo + len ≤ 10) :
    (enc2RI12 op i j d).extractLsb' lo len = j.extractLsb' (lo - 5) len := by
  ext b hb
  simp only [enc2RI12, BitVec.getElem_extractLsb', BitVec.getLsbD_append]
  rw [if_neg (by omega), if_pos (by omega)]
  congr 1; omega

theorem enc2RI12_d (op : BitVec 10) (i : BitVec 12) (j : BitVec 5) (d : BitVec 5) (lo len : Nat) (h2 : lo + len ≤ 5) :
    (enc2RI12 op i j d).extractLsb' lo len = d.extractLsb' (lo) len := by
  ext b hb
  simp only [enc2RI12, BitVec.getElem_extractLsb', BitVec.getLsbD_append]
  rw [if_pos (by omega)]

theorem enc2RI14_op (op : BitVec 8) (i : BitVec 14) (j : BitVec 5) (d : BitVec 5) (lo len : Nat) (h : 24 ≤ lo) (h2 : lo + len ≤ 32) :
    (enc2RI14 op i j d).extractLsb' lo len = op.extractLsb' (lo - 24) len := by
  ext b hb
  simp only [enc2RI14, BitVec.getElem_extractLsb', BitVec.getLsbD_append]
  rw [if_neg (by omega), if_neg (by omega), if_neg (by omega)]
  congr 1; omega

theorem enc2RI14_i (op : BitVec 8) (i : BitVec 14) (j : BitVec 5) (d : BitVec 5) (lo len : Nat) (h : 10 ≤ lo) (h2 : lo + len ≤ 24) :
    (enc2RI14 op i j d).extractLsb' lo len = i.extractLsb' (lo - 10) len := by
  ext b hb
  simp only [enc2RI14, BitVec.getElem_extractLsb', BitVec.getLsbD_append]
  rw [if_neg (by omega), if_neg (by omega), if_pos (by omega)]
  congr 1; omega

theorem enc2RI14_j (op : BitVec 8) (i : BitVec 14) (j : BitVec 5) (d : BitVec 5) (lo len : Nat) (h : 5 ≤ lo) (h2 : lo + len ≤ 10) :
    (enc2RI14 op i j d).extractLsb' lo len = j.extractLsb' (lo - 5) len := by
  ext b hb
  simp only [enc2RI14, BitVec.getElem_extractLsb', BitVec.getLsbD_append]
  rw [if_neg (by omega), if_pos (by omega)]
  congr 1; omega

theorem enc2RI14_d (op : BitVec 8) (i : BitVec 14) (j : BitVec 5) (d : BitVec 5) (lo len : Nat) (h2 : lo + len ≤ 5) :
    (enc2RI14 op i j d).extractLsb' lo len = d.extractLsb' (lo) len := by
  ext b hb
  simp only [enc2RI14, BitVec.getElem_extractLsb', BitVec.getLsbD_append]
  rw [if_pos (by omega)]

theorem enc2RI16_op (op : BitVec 6) (i : BitVec 16) (j : BitVec 5) (d : BitVec 5) (lo len : Nat) (h : 26 ≤ lo) (h2 : lo + len ≤ 32) :
    (enc2RI16 op i j d).extractLsb' lo len = op.extractLsb' (lo - 26) len := by
  ext b hb
  simp only [enc2RI16, BitVec.getElem_extractLsb', BitVec.getLsbD_append]
  rw [if_neg (by omega), if_neg (by omega), if_neg (by omega)]
  congr 1; omega

theorem enc2RI16_i (op : BitVec 6) (i : BitVec 16) (j : BitVec 5) (d : BitVec 5) (lo len : Nat) (h : 10 ≤ lo) (h2 : lo + len ≤ 26) :
    (enc2RI16 op i j d).extractLsb' lo len = i.extractLsb' (lo - 10) len := by
  ext b hb
  simp only [enc2RI16, BitVec.getElem_extractLsb', BitVec.getLsbD_append]
  rw [if_neg (by omega), if_neg (by omega), if_pos (by omega)]
  congr 1; omega

theorem enc2RI16_j (op : BitVec 6) (i : BitVec 16) (j : BitVec 5) (d : BitVec 5) (lo len : Nat) (h : 5 ≤ lo) (h2 : lo + len ≤ 10) :
    (enc2RI16 op i j d).extractLsb' lo len = j.extractLsb' (lo - 5) len := by
  ext b hb
  simp only [enc2RI16, BitVec.getElem_extractLsb', BitVec.getLsbD_append]
  rw [if_neg (by omega), if_pos (by omega)]
  congr 1; omega

theorem enc2RI16_d (op : BitVec 6) (i : BitVec 16) (j : BitVec 5) (d : BitVec 5) (lo len : Nat) (h2 : lo + len ≤ 5) :
    (enc2RI16 op i j d).extractLsb' lo len = d.extractLsb' (lo) len := by
  ext b hb
  simp only [enc2RI16, BitVec.getElem_extractLsb', BitVec.getLsbD_append]
  rw [if_pos (by omega)]

theorem enc1RI20_op (op : BitVec 7) (i : BitVec 20) (d : BitVec 5) (lo len : Nat) (h : 25 ≤ lo) (h2 : lo + len ≤ 32) :
    (enc1RI20 op i d).extractLsb' lo len = op.extractLsb' (lo - 25) len := by
  ext b hb
  simp only [enc1RI20, BitVec.getElem_extractLsb', BitVec.getLsbD_append]
  rw [if_neg (by omega), if_neg (by omega)]
  congr 1; omega

theorem enc1RI20_i (op : BitVec 7) (i : BitVec 20) (d : BitVec 5) (lo len : Nat) (h : 5 ≤ lo) (h2 : lo + len ≤ 25) :
    (enc1RI20 op i d).extractLsb' lo len = i.extractLsb' (lo - 5) len := by
  ext b hb
  simp only [enc1RI20, BitVec.getElem_extractLsb', BitVec.getLsbD_append]
  rw [if_neg (by omega), if_pos (by omega)]
  congr 1; omega

theorem enc1RI20_d (op : BitVec 7) (i : BitVec 20) (d : BitVec 5) (lo len : Nat) (h2 : lo + len ≤ 5) :
    (enc1RI20 op i d).extractLsb' lo len = d.extractLsb' (lo) len := by
  ext b hb
  simp only [enc1RI20, BitVec.getElem_extractLsb', BitVec.getLsbD_append]
  rw [if_pos (by omega)]

theorem encCode15_op (op : BitVec 17) (code : BitVec 15) (lo len : Nat) (h : 15 ≤ lo) (h2 : lo + len ≤ 32) :
    (encCode15 op code).extractLsb' lo len = op.extractLsb' (lo - 15) len := by
  ext b hb
  simp only [encCode15, BitVec.getElem_extractLsb', BitVec.getLsbD_append]
  rw [if_neg (by omega)]
  congr 1; omega

theorem encCode15_code (op : BitVec 17) (code : BitVec 15) (lo len : Nat) (h2 : lo + len ≤ 15) :
    (encCode15 op code).extractLsb' lo len = code.extractLsb' (lo) len := by
  ext b hb
  simp only [encCode15, BitVec.getElem_extractLsb', BitVec.getLsbD_append]
  rw [if_pos (by omega)]

theorem flagSlot_number (t : BitVec 2) (c : CfNo) : (flagSlot t c).extractLsb' 0 3 = c := by
  ext b hb
  simp only [flagSlot, BitVec.getElem_extractLsb', BitVec.getLsbD_append]
  rw [if_pos (by omega), Nat.zero_add, BitVec.getLsbD_eq_getElem hb]

theorem flagSlot_top (t : BitVec 2) (c : CfNo) : (flagSlot t c).extractLsb' 3 2 = t := by
  ext b hb
  simp only [flagSlot, BitVec.getElem_extractLsb', BitVec.getLsbD_append]
  rw [if_neg (by omega), Nat.add_sub_cancel_left, BitVec.getLsbD_eq_getElem hb]

theorem offs21_parts (v : BitVec 21) : (v.extractLsb' 16 5 ++ v.extractLsb' 0 16 : BitVec (5 + 16)) = v := by
  ext b hb
  simp only [BitVec.getElem_append, BitVec.getElem_extractLsb']
  split
  · rw [Nat.zero_add, BitVec.getLsbD_eq_getElem]
  · rw [show 16 + (b - 16) = b by omega, BitVec.getLsbD_eq_getElem hb]

theorem offs26_parts (v : BitVec 26) :
    ((v.extractLsb' 21 5 ++ v.extractLsb' 16 5 : BitVec (5 + 5)) ++ v.extractLsb' 0 16 : BitVec (5 + 5 + 16)) = v := by
  ext b hb
  simp only [BitVec.getElem_append, BitVec.getElem_extractLsb']
  split
  · rw [Nat.zero_add, BitVec.getLsbD_eq_getElem]
  · split
    · rw [show 16 + (b - 16) = b by omega, BitVec.getLsbD_eq_getElem hb]
    · rw [show 21 + (b - 16 - 5) = b by omega, BitVec.getLsbD_eq_getElem hb]

/-- The low ten bits of a word of format I26 are its two register slots. -/
theorem enc2RI16_jd (op : BitVec 6) (i : BitVec 16) (j d : BitVec 5) :
    (enc2RI16 op i j d).extractLsb' 0 10 = (j ++ d : BitVec (5 + 5)) := by
  ext b hb
  rw [← BitVec.getLsbD_eq_getElem hb (x := (j ++ d : BitVec (5 + 5))), BitVec.getLsbD_append]
  simp only [enc2RI16, BitVec.getElem_extractLsb', BitVec.getLsbD_append, Nat.zero_add]
  by_cases h : b < 5
  · rw [if_pos h, if_pos h]
  · rw [if_neg h, if_neg h, if_pos (by omega)]

end Sys2Proof
end

