-- ==== Sys2Proof/Laws/State.lean ====
section
/-! SUPPORT. One lemma for each field of each named update of the state. -/

namespace Sys2Proof.Machine

@[simp] theorem advance_x (s : State) : (advance s).x = s.x := rfl
@[simp] theorem advance_pc (s : State) : (advance s).pc = s.pc + 4 := rfl
@[simp] theorem advance_plv (s : State) : (advance s).plv = s.plv := rfl
@[simp] theorem advance_f (s : State) : (advance s).f = s.f := rfl
@[simp] theorem advance_fcc (s : State) : (advance s).fcc = s.fcc := rfl
@[simp] theorem advance_fcsr0 (s : State) : (advance s).fcsr0 = s.fcsr0 := rfl
@[simp] theorem advance_llbit (s : State) : (advance s).llbit = s.llbit := rfl
@[simp] theorem advance_mem (s : State) : (advance s).mem = s.mem := rfl
@[simp] theorem advance_memMap (s : State) : (advance s).memMap = s.memMap := rfl
@[simp] theorem advance_dirty (s : State) : (advance s).dirty = s.dirty := rfl
@[simp] theorem advance_draws (s : State) : (advance s).draws = s.draws := rfl

@[simp] theorem jump_x (target : Word) (s : State) : (jump target s).x = s.x := rfl
@[simp] theorem jump_pc (target : Word) (s : State) : (jump target s).pc = target := rfl
@[simp] theorem jump_plv (target : Word) (s : State) : (jump target s).plv = s.plv := rfl
@[simp] theorem jump_f (target : Word) (s : State) : (jump target s).f = s.f := rfl
@[simp] theorem jump_fcc (target : Word) (s : State) : (jump target s).fcc = s.fcc := rfl
@[simp] theorem jump_fcsr0 (target : Word) (s : State) : (jump target s).fcsr0 = s.fcsr0 := rfl
@[simp] theorem jump_llbit (target : Word) (s : State) : (jump target s).llbit = s.llbit := rfl
@[simp] theorem jump_mem (target : Word) (s : State) : (jump target s).mem = s.mem := rfl
@[simp] theorem jump_memMap (target : Word) (s : State) : (jump target s).memMap = s.memMap := rfl
@[simp] theorem jump_dirty (target : Word) (s : State) : (jump target s).dirty = s.dirty := rfl
@[simp] theorem jump_draws (target : Word) (s : State) : (jump target s).draws = s.draws := rfl

@[simp] theorem drawn_x (s : State) : (drawn s).x = s.x := rfl
@[simp] theorem drawn_pc (s : State) : (drawn s).pc = s.pc := rfl
@[simp] theorem drawn_plv (s : State) : (drawn s).plv = s.plv := rfl
@[simp] theorem drawn_f (s : State) : (drawn s).f = s.f := rfl
@[simp] theorem drawn_fcc (s : State) : (drawn s).fcc = s.fcc := rfl
@[simp] theorem drawn_fcsr0 (s : State) : (drawn s).fcsr0 = s.fcsr0 := rfl
@[simp] theorem drawn_llbit (s : State) : (drawn s).llbit = s.llbit := rfl
@[simp] theorem drawn_mem (s : State) : (drawn s).mem = s.mem := rfl
@[simp] theorem drawn_memMap (s : State) : (drawn s).memMap = s.memMap := rfl
@[simp] theorem drawn_dirty (s : State) : (drawn s).dirty = s.dirty := rfl
@[simp] theorem drawn_draws (s : State) : (drawn s).draws = s.draws + 1 := rfl

@[simp] theorem setFpr_x (r : FprNo) (v : Fpr) (s : State) : (setFpr r v s).x = s.x := rfl
@[simp] theorem setFpr_pc (r : FprNo) (v : Fpr) (s : State) : (setFpr r v s).pc = s.pc := rfl
@[simp] theorem setFpr_plv (r : FprNo) (v : Fpr) (s : State) : (setFpr r v s).plv = s.plv := rfl
@[simp] theorem setFpr_f (r : FprNo) (v : Fpr) (s : State) : (setFpr r v s).f = s.f.set r.toNat v r.isLt := rfl
@[simp] theorem setFpr_fcc (r : FprNo) (v : Fpr) (s : State) : (setFpr r v s).fcc = s.fcc := rfl
@[simp] theorem setFpr_fcsr0 (r : FprNo) (v : Fpr) (s : State) : (setFpr r v s).fcsr0 = s.fcsr0 := rfl
@[simp] theorem setFpr_llbit (r : FprNo) (v : Fpr) (s : State) : (setFpr r v s).llbit = s.llbit := rfl
@[simp] theorem setFpr_mem (r : FprNo) (v : Fpr) (s : State) : (setFpr r v s).mem = s.mem := rfl
@[simp] theorem setFpr_memMap (r : FprNo) (v : Fpr) (s : State) : (setFpr r v s).memMap = s.memMap := rfl
@[simp] theorem setFpr_dirty (r : FprNo) (v : Fpr) (s : State) : (setFpr r v s).dirty = s.dirty := rfl
@[simp] theorem setFpr_draws (r : FprNo) (v : Fpr) (s : State) : (setFpr r v s).draws = s.draws := rfl

@[simp] theorem writeFpr_x (r : FprNo) (v : DWord) (s : State) : (writeFpr r v s).x = s.x := rfl
@[simp] theorem writeFpr_pc (r : FprNo) (v : DWord) (s : State) : (writeFpr r v s).pc = s.pc := rfl
@[simp] theorem writeFpr_plv (r : FprNo) (v : DWord) (s : State) : (writeFpr r v s).plv = s.plv := rfl
@[simp] theorem writeFpr_f (r : FprNo) (v : DWord) (s : State) : (writeFpr r v s).f = s.f.set r.toNat { hi := v.extractLsb' 32 32, lo := v.extractLsb' 0 32 } r.isLt := rfl
@[simp] theorem writeFpr_fcc (r : FprNo) (v : DWord) (s : State) : (writeFpr r v s).fcc = s.fcc := rfl
@[simp] theorem writeFpr_fcsr0 (r : FprNo) (v : DWord) (s : State) : (writeFpr r v s).fcsr0 = s.fcsr0 := rfl
@[simp] theorem writeFpr_llbit (r : FprNo) (v : DWord) (s : State) : (writeFpr r v s).llbit = s.llbit := rfl
@[simp] theorem writeFpr_mem (r : FprNo) (v : DWord) (s : State) : (writeFpr r v s).mem = s.mem := rfl
@[simp] theorem writeFpr_memMap (r : FprNo) (v : DWord) (s : State) : (writeFpr r v s).memMap = s.memMap := rfl
@[simp] theorem writeFpr_dirty (r : FprNo) (v : DWord) (s : State) : (writeFpr r v s).dirty = s.dirty := rfl
@[simp] theorem writeFpr_draws (r : FprNo) (v : DWord) (s : State) : (writeFpr r v s).draws = s.draws := rfl

@[simp] theorem writeFprLow_x (r : FprNo) (v : Word) (s : State) : (writeFprLow r v s).x = s.x := rfl
@[simp] theorem writeFprLow_pc (r : FprNo) (v : Word) (s : State) : (writeFprLow r v s).pc = s.pc := rfl
@[simp] theorem writeFprLow_plv (r : FprNo) (v : Word) (s : State) : (writeFprLow r v s).plv = s.plv := rfl
@[simp] theorem writeFprLow_f (r : FprNo) (v : Word) (s : State) : (writeFprLow r v s).f = s.f.set r.toNat { hi := draw s, lo := v } r.isLt := rfl
@[simp] theorem writeFprLow_fcc (r : FprNo) (v : Word) (s : State) : (writeFprLow r v s).fcc = s.fcc := rfl
@[simp] theorem writeFprLow_fcsr0 (r : FprNo) (v : Word) (s : State) : (writeFprLow r v s).fcsr0 = s.fcsr0 := rfl
@[simp] theorem writeFprLow_llbit (r : FprNo) (v : Word) (s : State) : (writeFprLow r v s).llbit = s.llbit := rfl
@[simp] theorem writeFprLow_mem (r : FprNo) (v : Word) (s : State) : (writeFprLow r v s).mem = s.mem := rfl
@[simp] theorem writeFprLow_memMap (r : FprNo) (v : Word) (s : State) : (writeFprLow r v s).memMap = s.memMap := rfl
@[simp] theorem writeFprLow_dirty (r : FprNo) (v : Word) (s : State) : (writeFprLow r v s).dirty = s.dirty := rfl
@[simp] theorem writeFprLow_draws (r : FprNo) (v : Word) (s : State) : (writeFprLow r v s).draws = s.draws + 1 := rfl

@[simp] theorem writeFprHigh_x (r : FprNo) (v : Word) (s : State) : (writeFprHigh r v s).x = s.x := rfl
@[simp] theorem writeFprHigh_pc (r : FprNo) (v : Word) (s : State) : (writeFprHigh r v s).pc = s.pc := rfl
@[simp] theorem writeFprHigh_plv (r : FprNo) (v : Word) (s : State) : (writeFprHigh r v s).plv = s.plv := rfl
@[simp] theorem writeFprHigh_f (r : FprNo) (v : Word) (s : State) : (writeFprHigh r v s).f = s.f.set r.toNat { hi := v, lo := readFprLow r s } r.isLt := rfl
@[simp] theorem writeFprHigh_fcc (r : FprNo) (v : Word) (s : State) : (writeFprHigh r v s).fcc = s.fcc := rfl
@[simp] theorem writeFprHigh_fcsr0 (r : FprNo) (v : Word) (s : State) : (writeFprHigh r v s).fcsr0 = s.fcsr0 := rfl
@[simp] theorem writeFprHigh_llbit (r : FprNo) (v : Word) (s : State) : (writeFprHigh r v s).llbit = s.llbit := rfl
@[simp] theorem writeFprHigh_mem (r : FprNo) (v : Word) (s : State) : (writeFprHigh r v s).mem = s.mem := rfl
@[simp] theorem writeFprHigh_memMap (r : FprNo) (v : Word) (s : State) : (writeFprHigh r v s).memMap = s.memMap := rfl
@[simp] theorem writeFprHigh_dirty (r : FprNo) (v : Word) (s : State) : (writeFprHigh r v s).dirty = s.dirty := rfl
@[simp] theorem writeFprHigh_draws (r : FprNo) (v : Word) (s : State) : (writeFprHigh r v s).draws = s.draws := rfl

@[simp] theorem writeFcc_x (c : CfNo) (b : Bool) (s : State) : (writeFcc c b s).x = s.x := rfl
@[simp] theorem writeFcc_pc (c : CfNo) (b : Bool) (s : State) : (writeFcc c b s).pc = s.pc := rfl
@[simp] theorem writeFcc_plv (c : CfNo) (b : Bool) (s : State) : (writeFcc c b s).plv = s.plv := rfl
@[simp] theorem writeFcc_f (c : CfNo) (b : Bool) (s : State) : (writeFcc c b s).f = s.f := rfl
@[simp] theorem writeFcc_fcc (c : CfNo) (b : Bool) (s : State) : (writeFcc c b s).fcc = s.fcc.set c.toNat b c.isLt := rfl
@[simp] theorem writeFcc_fcsr0 (c : CfNo) (b : Bool) (s : State) : (writeFcc c b s).fcsr0 = s.fcsr0 := rfl
@[simp] theorem writeFcc_llbit (c : CfNo) (b : Bool) (s : State) : (writeFcc c b s).llbit = s.llbit := rfl
@[simp] theorem writeFcc_mem (c : CfNo) (b : Bool) (s : State) : (writeFcc c b s).mem = s.mem := rfl
@[simp] theorem writeFcc_memMap (c : CfNo) (b : Bool) (s : State) : (writeFcc c b s).memMap = s.memMap := rfl
@[simp] theorem writeFcc_dirty (c : CfNo) (b : Bool) (s : State) : (writeFcc c b s).dirty = s.dirty := rfl
@[simp] theorem writeFcc_draws (c : CfNo) (b : Bool) (s : State) : (writeFcc c b s).draws = s.draws := rfl

@[simp] theorem memWrite_x (n : Nat) (a : Word) (v : Nat) (s : State) : (memWrite n a v s).x = s.x := rfl
@[simp] theorem memWrite_pc (n : Nat) (a : Word) (v : Nat) (s : State) : (memWrite n a v s).pc = s.pc := rfl
@[simp] theorem memWrite_plv (n : Nat) (a : Word) (v : Nat) (s : State) : (memWrite n a v s).plv = s.plv := rfl
@[simp] theorem memWrite_f (n : Nat) (a : Word) (v : Nat) (s : State) : (memWrite n a v s).f = s.f := rfl
@[simp] theorem memWrite_fcc (n : Nat) (a : Word) (v : Nat) (s : State) : (memWrite n a v s).fcc = s.fcc := rfl
@[simp] theorem memWrite_fcsr0 (n : Nat) (a : Word) (v : Nat) (s : State) : (memWrite n a v s).fcsr0 = s.fcsr0 := rfl
@[simp] theorem memWrite_llbit (n : Nat) (a : Word) (v : Nat) (s : State) : (memWrite n a v s).llbit = s.llbit := rfl
@[simp] theorem memWrite_mem (n : Nat) (a : Word) (v : Nat) (s : State) : (memWrite n a v s).mem = s.mem.write n a v := rfl
@[simp] theorem memWrite_memMap (n : Nat) (a : Word) (v : Nat) (s : State) : (memWrite n a v s).memMap = s.memMap := rfl
@[simp] theorem memWrite_dirty (n : Nat) (a : Word) (v : Nat) (s : State) : (memWrite n a v s).dirty = markDirty n a s.dirty := rfl
@[simp] theorem memWrite_draws (n : Nat) (a : Word) (v : Nat) (s : State) : (memWrite n a v s).draws = s.draws := rfl

@[simp] theorem setLlbit_x (b : Bool) (s : State) : (setLlbit b s).x = s.x := rfl
@[simp] theorem setLlbit_pc (b : Bool) (s : State) : (setLlbit b s).pc = s.pc := rfl
@[simp] theorem setLlbit_plv (b : Bool) (s : State) : (setLlbit b s).plv = s.plv := rfl
@[simp] theorem setLlbit_f (b : Bool) (s : State) : (setLlbit b s).f = s.f := rfl
@[simp] theorem setLlbit_fcc (b : Bool) (s : State) : (setLlbit b s).fcc = s.fcc := rfl
@[simp] theorem setLlbit_fcsr0 (b : Bool) (s : State) : (setLlbit b s).fcsr0 = s.fcsr0 := rfl
@[simp] theorem setLlbit_llbit (b : Bool) (s : State) : (setLlbit b s).llbit = b := rfl
@[simp] theorem setLlbit_mem (b : Bool) (s : State) : (setLlbit b s).mem = s.mem := rfl
@[simp] theorem setLlbit_memMap (b : Bool) (s : State) : (setLlbit b s).memMap = s.memMap := rfl
@[simp] theorem setLlbit_dirty (b : Bool) (s : State) : (setLlbit b s).dirty = s.dirty := rfl
@[simp] theorem setLlbit_draws (b : Bool) (s : State) : (setLlbit b s).draws = s.draws := rfl

@[simp] theorem setCause_x (exc : FpExc) (s : State) : (setCause exc s).x = s.x := rfl
@[simp] theorem setCause_pc (exc : FpExc) (s : State) : (setCause exc s).pc = s.pc := rfl
@[simp] theorem setCause_plv (exc : FpExc) (s : State) : (setCause exc s).plv = s.plv := rfl
@[simp] theorem setCause_f (exc : FpExc) (s : State) : (setCause exc s).f = s.f := rfl
@[simp] theorem setCause_fcc (exc : FpExc) (s : State) : (setCause exc s).fcc = s.fcc := rfl
@[simp] theorem setCause_fcsr0 (exc : FpExc) (s : State) : (setCause exc s).fcsr0 = (s.fcsr0 &&& 0xE0FFFFFF#32) ||| (exc.setWidth 32 <<< 24) := rfl
@[simp] theorem setCause_llbit (exc : FpExc) (s : State) : (setCause exc s).llbit = s.llbit := rfl
@[simp] theorem setCause_mem (exc : FpExc) (s : State) : (setCause exc s).mem = s.mem := rfl
@[simp] theorem setCause_memMap (exc : FpExc) (s : State) : (setCause exc s).memMap = s.memMap := rfl
@[simp] theorem setCause_dirty (exc : FpExc) (s : State) : (setCause exc s).dirty = s.dirty := rfl
@[simp] theorem setCause_draws (exc : FpExc) (s : State) : (setCause exc s).draws = s.draws := rfl

@[simp] theorem accumulateFlags_x (exc : FpExc) (s : State) : (accumulateFlags exc s).x = s.x := rfl
@[simp] theorem accumulateFlags_pc (exc : FpExc) (s : State) : (accumulateFlags exc s).pc = s.pc := rfl
@[simp] theorem accumulateFlags_plv (exc : FpExc) (s : State) : (accumulateFlags exc s).plv = s.plv := rfl
@[simp] theorem accumulateFlags_f (exc : FpExc) (s : State) : (accumulateFlags exc s).f = s.f := rfl
@[simp] theorem accumulateFlags_fcc (exc : FpExc) (s : State) : (accumulateFlags exc s).fcc = s.fcc := rfl
@[simp] theorem accumulateFlags_fcsr0 (exc : FpExc) (s : State) : (accumulateFlags exc s).fcsr0 = s.fcsr0 ||| (exc.setWidth 32 <<< 16) := rfl
@[simp] theorem accumulateFlags_llbit (exc : FpExc) (s : State) : (accumulateFlags exc s).llbit = s.llbit := rfl
@[simp] theorem accumulateFlags_mem (exc : FpExc) (s : State) : (accumulateFlags exc s).mem = s.mem := rfl
@[simp] theorem accumulateFlags_memMap (exc : FpExc) (s : State) : (accumulateFlags exc s).memMap = s.memMap := rfl
@[simp] theorem accumulateFlags_dirty (exc : FpExc) (s : State) : (accumulateFlags exc s).dirty = s.dirty := rfl
@[simp] theorem accumulateFlags_draws (exc : FpExc) (s : State) : (accumulateFlags exc s).draws = s.draws := rfl

@[simp] theorem writeFcsr_x (mask v : Word) (s : State) : (writeFcsr mask v s).x = s.x := rfl
@[simp] theorem writeFcsr_pc (mask v : Word) (s : State) : (writeFcsr mask v s).pc = s.pc := rfl
@[simp] theorem writeFcsr_plv (mask v : Word) (s : State) : (writeFcsr mask v s).plv = s.plv := rfl
@[simp] theorem writeFcsr_f (mask v : Word) (s : State) : (writeFcsr mask v s).f = s.f := rfl
@[simp] theorem writeFcsr_fcc (mask v : Word) (s : State) : (writeFcsr mask v s).fcc = s.fcc := rfl
@[simp] theorem writeFcsr_fcsr0 (mask v : Word) (s : State) : (writeFcsr mask v s).fcsr0 = (s.fcsr0 &&& ~~~mask) ||| (v &&& mask) := rfl
@[simp] theorem writeFcsr_llbit (mask v : Word) (s : State) : (writeFcsr mask v s).llbit = s.llbit := rfl
@[simp] theorem writeFcsr_mem (mask v : Word) (s : State) : (writeFcsr mask v s).mem = s.mem := rfl
@[simp] theorem writeFcsr_memMap (mask v : Word) (s : State) : (writeFcsr mask v s).memMap = s.memMap := rfl
@[simp] theorem writeFcsr_dirty (mask v : Word) (s : State) : (writeFcsr mask v s).dirty = s.dirty := rfl
@[simp] theorem writeFcsr_draws (mask v : Word) (s : State) : (writeFcsr mask v s).draws = s.draws := rfl

@[simp] theorem writeGpr_x (r : RegNo) (v : Word) (s : State) :
    (writeGpr r v s).x = if r = 0 then s.x else s.x.set r.toNat v r.isLt := by unfold writeGpr; split <;> rfl
@[simp] theorem writeGpr_pc (r : RegNo) (v : Word) (s : State) : (writeGpr r v s).pc = s.pc := by
  unfold writeGpr; split <;> rfl
@[simp] theorem writeGpr_plv (r : RegNo) (v : Word) (s : State) : (writeGpr r v s).plv = s.plv := by
  unfold writeGpr; split <;> rfl
@[simp] theorem writeGpr_f (r : RegNo) (v : Word) (s : State) : (writeGpr r v s).f = s.f := by
  unfold writeGpr; split <;> rfl
@[simp] theorem writeGpr_fcc (r : RegNo) (v : Word) (s : State) : (writeGpr r v s).fcc = s.fcc := by
  unfold writeGpr; split <;> rfl
@[simp] theorem writeGpr_fcsr0 (r : RegNo) (v : Word) (s : State) : (writeGpr r v s).fcsr0 = s.fcsr0 := by
  unfold writeGpr; split <;> rfl
@[simp] theorem writeGpr_llbit (r : RegNo) (v : Word) (s : State) : (writeGpr r v s).llbit = s.llbit := by
  unfold writeGpr; split <;> rfl
@[simp] theorem writeGpr_mem (r : RegNo) (v : Word) (s : State) : (writeGpr r v s).mem = s.mem := by
  unfold writeGpr; split <;> rfl
@[simp] theorem writeGpr_memMap (r : RegNo) (v : Word) (s : State) : (writeGpr r v s).memMap = s.memMap := by
  unfold writeGpr; split <;> rfl
@[simp] theorem writeGpr_dirty (r : RegNo) (v : Word) (s : State) : (writeGpr r v s).dirty = s.dirty := by
  unfold writeGpr; split <;> rfl
@[simp] theorem writeGpr_draws (r : RegNo) (v : Word) (s : State) : (writeGpr r v s).draws = s.draws := by
  unfold writeGpr; split <;> rfl

@[simp] theorem boundary_x (s : State) : (boundary s).x = s.x := by unfold boundary; split <;> rfl
@[simp] theorem boundary_pc (s : State) : (boundary s).pc = s.pc := by unfold boundary; split <;> rfl
@[simp] theorem boundary_plv (s : State) : (boundary s).plv = s.plv := by unfold boundary; split <;> rfl
@[simp] theorem boundary_f (s : State) : (boundary s).f = s.f := by unfold boundary; split <;> rfl
@[simp] theorem boundary_fcc (s : State) : (boundary s).fcc = s.fcc := by unfold boundary; split <;> rfl
@[simp] theorem boundary_fcsr0 (s : State) : (boundary s).fcsr0 = s.fcsr0 := by unfold boundary; split <;> rfl
@[simp] theorem boundary_mem (s : State) : (boundary s).mem = s.mem := by unfold boundary; split <;> rfl
@[simp] theorem boundary_memMap (s : State) : (boundary s).memMap = s.memMap := by unfold boundary; split <;> rfl
@[simp] theorem boundary_dirty (s : State) : (boundary s).dirty = s.dirty := by unfold boundary; split <;> rfl

/-- While LLbit is 0 the environment does nothing. -/
theorem boundary_of_llbit_false {s : State} (h : s.llbit = false) : boundary s = s := by simp [boundary, h]

/-- The environment never sets LLbit (45_atomic_barrier.md R192). -/
theorem llbit_of_boundary_llbit {s : State} (h : (boundary s).llbit = true) : s.llbit = true := by
  by_contra hs
  rw [boundary_of_llbit_false (by simpa using hs)] at h
  exact hs h

end Sys2Proof.Machine
end

