-- ==== Sys2Proof/Laws/Ops.lean ====
section
/-! SUPPORT. What each shared operation can do, said once: registers. -/

namespace Sys2Proof.Machine

/-! ### Reads depend on one field -/

theorem readGpr_congr {s t : State} (h : t.x = s.x) (r : RegNo) : readGpr r t = readGpr r s := by simp [readGpr, h]
theorem fprOf_congr {s t : State} (h : t.f = s.f) (r : FprNo) : fprOf r t = fprOf r s := by simp [fprOf, h]
theorem readFpr_congr {s t : State} (h : t.f = s.f) (r : FprNo) : readFpr r t = readFpr r s := by
  simp [readFpr, readFprHigh, readFprLow, fprOf_congr h]
theorem readFcc_congr {s t : State} (h : t.fcc = s.fcc) (c : CfNo) : readFcc c t = readFcc c s := by simp [readFcc, h]
theorem byteAt_congr {s t : State} (h : t.mem = s.mem) (a : Word) : byteAt a t = byteAt a s := by simp [byteAt, h]
theorem mapped_congr {s t : State} (h : t.memMap = s.memMap) (a : Word) : mapped a t = mapped a s := by simp [mapped, h]

theorem memRead_congr {s t : State} (h : t.mem = s.mem) (n : Nat) (a : Word) : memRead n a t = memRead n a s := by
  induction n generalizing a with
  | zero => rfl
  | succ n ih => simp [memRead, ih, byteAt_congr h]

theorem mappedRange_congr {s t : State} (h : t.memMap = s.memMap) (n : Nat) (a : Word) :
    mappedRange n a t = mappedRange n a s := by
  induction n generalizing a with
  | zero => rfl
  | succ n ih => simp [mappedRange, ih, mapped_congr h]

/-! ### General registers -/

@[simp] theorem readGpr_zero (s : State) : readGpr 0 s = 0 := rfl

/-- Reading after a write: the written register, unless it is r0 (10_state.md R21). -/
theorem readGpr_writeGpr (rd : RegNo) (v : Word) (s : State) (r : RegNo) :
    readGpr r (writeGpr rd v s) = if r = rd ∧ r ≠ 0 then v else readGpr r s := by
  by_cases h0 : r = 0
  · rw [if_neg (fun h => h.2 h0)]; subst h0; rfl
  · by_cases hd : rd = 0
    · rw [if_neg (fun h => h0 (h.1.trans hd)), writeGpr, if_pos hd]
    · rw [writeGpr, if_neg hd, readGpr, readGpr, if_neg h0, if_neg h0]
      by_cases h : r = rd
      · subst h; rw [if_pos ⟨rfl, h0⟩]; exact Vector.getElem_set_self r.isLt
      · rw [if_neg (fun e => h e.1)]
        exact Vector.getElem_set_ne rd.isLt r.isLt (fun e => h (BitVec.eq_of_toNat_eq e.symm))

theorem gprWritten_writeGpr (rd : RegNo) (v : Word) (s : State) : GprWritten rd v s (writeGpr rd v s) :=
  readGpr_writeGpr rd v s

/-! ### Floating-point registers -/

theorem fprOf_setFpr (fd : FprNo) (v : Fpr) (s : State) (r : FprNo) :
    fprOf r (setFpr fd v s) = if r = fd then v else fprOf r s := by
  unfold fprOf
  by_cases h : r = fd
  · subst h; simp [setFpr]
  · have hn : ¬ fd.toNat = r.toNat := fun e => h (BitVec.eq_of_toNat_eq e.symm)
    simp [setFpr, h, hn]

theorem append_extract_word (v : DWord) : (v.extractLsb' 32 32 ++ v.extractLsb' 0 32 : BitVec (32 + 32)) = v := by
  ext i hi
  simp only [BitVec.getElem_append, BitVec.getElem_extractLsb']
  split
  · simp [BitVec.getLsbD_eq_getElem hi]
  · have : 32 + (i - 32) = i := by omega
    simp [this, BitVec.getLsbD_eq_getElem hi]

theorem readFpr_writeFpr (fd : FprNo) (v : DWord) (s : State) (r : FprNo) :
    readFpr r (writeFpr fd v s) = if r = fd then v else readFpr r s := by
  unfold readFpr readFprHigh readFprLow writeFpr
  rw [fprOf_setFpr]
  split
  · exact append_extract_word v
  · rfl

theorem fprWritten_writeFpr (fd : FprNo) (v : DWord) (s : State) : FprWritten fd v s (writeFpr fd v s) :=
  readFpr_writeFpr fd v s

theorem readFpr_low (r : FprNo) (s : State) : (readFpr r s).extractLsb' 0 32 = readFprLow r s := by
  ext i hi
  have hi' : 0 + i < 32 := by omega
  rw [BitVec.getElem_extractLsb', readFpr, BitVec.getLsbD_append, if_pos hi', Nat.zero_add, BitVec.getLsbD_eq_getElem hi]

theorem readFpr_high (r : FprNo) (s : State) : (readFpr r s).extractLsb' 32 32 = readFprHigh r s := by
  ext i hi
  have h32 : ¬ 32 + i < 32 := by omega
  have hi' : 32 + i - 32 = i := by omega
  rw [BitVec.getElem_extractLsb', readFpr, BitVec.getLsbD_append, if_neg h32, hi', BitVec.getLsbD_eq_getElem hi]

theorem fprLowWritten_writeFprLow (fd : FprNo) (v : Word) (s : State) : FprLowWritten fd v s (writeFprLow fd v s) := by
  refine ⟨?_, fun r hr => ?_⟩
  · rw [readFpr_low]
    simp [readFprLow, writeFprLow, fprOf_congr (drawn_f _), fprOf_setFpr]
  · rw [writeFprLow, readFpr_congr (drawn_f _)]
    simp [readFpr, readFprHigh, readFprLow, fprOf_setFpr, hr]

theorem fprWritten_writeFprHigh (fd : FprNo) (v : Word) (s : State) :
    FprWritten fd (v ++ readFprLow fd s : BitVec (32 + 32)) s (writeFprHigh fd v s) := by
  intro r
  by_cases h : r = fd <;> simp [readFpr, readFprHigh, readFprLow, writeFprHigh, fprOf_setFpr, h]

/-! ### Condition flags -/

theorem readFcc_writeFcc (cd : CfNo) (b : Bool) (s : State) (c : CfNo) :
    readFcc c (writeFcc cd b s) = if c = cd then b else readFcc c s := by
  unfold readFcc
  by_cases h : c = cd
  · subst h; simp [writeFcc]
  · have hn : ¬ cd.toNat = c.toNat := fun e => h (BitVec.eq_of_toNat_eq e.symm)
    simp [writeFcc, h, hn]

theorem fccWritten_writeFcc (cd : CfNo) (b : Bool) (s : State) : FccWritten cd b s (writeFcc cd b s) :=
  readFcc_writeFcc cd b s

end Sys2Proof.Machine
end

