-- ==== Sys2Proof/Laws/Memory.lean ====
section
/-! SUPPORT. What each memory operation can do, said once; every one keeps the canonical form. -/

namespace Sys2Proof.Machine

/-! ### One byte -/

theorem readByte_erase (m : Memory) (a b : Nat) :
    (m.erase a).readByte b = if b = a then Memory.unlisted else m.readByte b := by
  induction m with
  | nil => simp [Memory.erase, Memory.readByte]
  | cons cell rest ih =>
    obtain ⟨c, w⟩ := cell
    simp only [Memory.erase] at ih ⊢
    by_cases hc : c = a
    · subst hc
      simp only [List.filter_cons, bne_self_eq_false, Bool.false_eq_true, if_false, ih, Memory.readByte]
      by_cases hb : b = c
      · simp [hb]
      · simp [hb, Ne.symm hb]
    · have hne : (c != a) = true := by simpa using hc
      simp only [List.filter_cons, hne, if_true, Memory.readByte, ih]
      by_cases hb : c = b
      · subst hb; simp [hc]
      · simp [hb]

theorem readByte_of_not_listed {m : Memory} {a : Nat} (h : ∀ cell ∈ m, cell.1 ≠ a) :
    m.readByte a = Memory.unlisted := by
  induction m with
  | nil => rfl
  | cons cell rest ih =>
    obtain ⟨c, w⟩ := cell
    simp only [List.mem_cons, forall_eq_or_imp] at h
    simp [Memory.readByte, h.1, ih h.2]

theorem readByte_insert {m : Memory} {a : Nat} (h : ∀ cell ∈ m, cell.1 ≠ a) (v : Byte) (b : Nat) :
    (m.insert a v).readByte b = if b = a then v else m.readByte b := by
  induction m with
  | nil =>
    by_cases hb : b = a
    · simp [Memory.insert, Memory.readByte, hb]
    · simp [Memory.insert, Memory.readByte, hb, Ne.symm hb]
  | cons cell rest ih =>
    obtain ⟨c, w⟩ := cell
    simp only [List.mem_cons, forall_eq_or_imp] at h
    unfold Memory.insert
    split
    · by_cases hb : b = a
      · simp [Memory.readByte, hb]
      · simp [Memory.readByte, hb, Ne.symm hb]
    · by_cases hb : c = b
      · subst hb; simp [Memory.readByte, h.1]
      · simp [Memory.readByte, hb, ih h.2]

theorem not_listed_erase (m : Memory) (a : Nat) : ∀ cell ∈ m.erase a, cell.1 ≠ a := by
  intro cell hc
  simpa using (List.mem_filter.1 hc).2

/-- A read after a write: the written byte at its address, every other byte as before. -/
theorem readByte_writeByte (m : Memory) (a : Nat) (v : Byte) (b : Nat) :
    (m.writeByte a v).readByte b = if b = a then v else m.readByte b := by
  unfold Memory.writeByte
  split
  · next h => rw [readByte_erase, h]
  · rw [readByte_insert (not_listed_erase m a), readByte_erase]
    split <;> rfl

/-! ### The canonical form -/

theorem wf_nil : Memory.wf [] := by simp [Memory.wf]

theorem mem_insert {m : Memory} {a : Nat} {v : Byte} {cell : Host.Cell} (h : cell ∈ m.insert a v) :
    cell = (a, v) ∨ cell ∈ m := by
  induction m with
  | nil => simpa [Memory.insert] using h
  | cons c rest ih =>
    unfold Memory.insert at h
    split at h
    · simpa using h
    · rcases List.mem_cons.1 h with h | h
      · exact .inr (h ▸ List.mem_cons_self)
      · exact (ih h).imp_right (List.mem_cons_of_mem _)

theorem pairwise_insert {m : Memory} {a : Nat} {v : Byte} (hm : (m.map Prod.fst).Pairwise (· < ·))
    (h : ∀ cell ∈ m, cell.1 ≠ a) : ((m.insert a v).map Prod.fst).Pairwise (· < ·) := by
  induction m with
  | nil => simp [Memory.insert]
  | cons c rest ih =>
    simp only [List.map_cons, List.pairwise_cons] at hm
    simp only [List.mem_cons, forall_eq_or_imp] at h
    unfold Memory.insert
    split
    · next hlt =>
      simp only [List.map_cons, List.pairwise_cons, List.mem_cons, forall_eq_or_imp]
      exact ⟨⟨hlt, fun x hx => Nat.lt_trans hlt (hm.1 x hx)⟩, hm⟩
    · next hge =>
      simp only [List.map_cons, List.pairwise_cons]
      refine ⟨fun x hx => ?_, ih hm.2 h.2⟩
      obtain ⟨cell, hc, rfl⟩ := List.mem_map.1 hx
      rcases mem_insert hc with rfl | hc
      · exact Nat.lt_of_le_of_ne (Nat.le_of_not_lt hge) h.1
      · exact hm.1 _ (List.mem_map.2 ⟨cell, hc, rfl⟩)

theorem wf_erase {m : Memory} (hm : m.wf) (a : Nat) : (m.erase a).wf :=
  ⟨hm.1.sublist (List.filter_sublist.map _), fun cell hc => hm.2 cell (List.mem_filter.1 hc).1⟩

theorem wf_writeByte {m : Memory} (hm : m.wf) {a : Nat} (ha : a < 2 ^ 32) (v : Byte) : (m.writeByte a v).wf := by
  unfold Memory.writeByte
  split
  · exact wf_erase hm a
  · next hv =>
    refine ⟨pairwise_insert (wf_erase hm a).1 (not_listed_erase m a), fun cell hc => ?_⟩
    rcases mem_insert hc with rfl | hc
    · exact ⟨ha, hv⟩
    · exact (wf_erase hm a).2 cell hc

/-- Every write keeps the canonical form. -/
theorem wf_write {m : Memory} (hm : m.wf) (n : Nat) (a : Word) (v : Nat) : (Memory.write n a v m).wf := by
  induction n generalizing a v m with
  | zero => exact hm
  | succ n ih => exact ih (wf_writeByte hm a.isLt _) _ _

/-- The canonical form has one memory for one contents. -/
theorem memory_ext {m m' : Memory} (hm : m.wf) (hm' : m'.wf) (h : ∀ a, m.readByte a = m'.readByte a) : m = m' := by
  induction m generalizing m' with
  | nil =>
    cases m' with
    | nil => rfl
    | cons c rest =>
      have := h c.1
      simp only [Memory.readByte, if_true] at this
      exact absurd this.symm (hm'.2 c List.mem_cons_self).2
  | cons c rest ih =>
    have tail : ∀ {d : Host.Cell} {r : Memory}, Memory.wf (d :: r) → Memory.wf r ∧ r.readByte d.1 = Memory.unlisted := by
      intro d r hd
      have hp := hd.1
      simp only [List.map_cons, List.pairwise_cons] at hp
      refine ⟨⟨hp.2, fun x hx => hd.2 x (List.mem_cons_of_mem _ hx)⟩, readByte_of_not_listed fun x hx => ?_⟩
      exact (Nat.ne_of_lt (hp.1 _ (List.mem_map.2 ⟨x, hx, rfl⟩))).symm
    have below : ∀ {d : Host.Cell} {r : Memory}, Memory.wf (d :: r) → ∀ a, a < d.1 →
        Memory.readByte (d :: r) a = Memory.unlisted := by
      intro d r hd a ha
      refine readByte_of_not_listed fun x hx => ?_
      rcases List.mem_cons.1 hx with rfl | hx
      · exact (Nat.ne_of_lt ha).symm
      · have hp := hd.1
        simp only [List.map_cons, List.pairwise_cons] at hp
        exact (Nat.ne_of_lt (Nat.lt_trans ha (hp.1 _ (List.mem_map.2 ⟨x, hx, rfl⟩)))).symm
    have head : ∀ d r, Memory.readByte (d :: r) d.1 = d.2 := fun d r => by simp [Memory.readByte]
    cases m' with
    | nil =>
      have := h c.1
      rw [head] at this
      exact absurd this (hm.2 c List.mem_cons_self).2
    | cons d rest' =>
      have hcd : c.1 = d.1 := by
        rcases Nat.lt_trichotomy c.1 d.1 with hlt | heq | hlt
        · have := h c.1
          rw [head, below hm' _ hlt] at this
          exact absurd this (hm.2 c List.mem_cons_self).2
        · exact heq
        · have := h d.1
          rw [head, below hm _ hlt] at this
          exact absurd this.symm (hm'.2 d List.mem_cons_self).2
      have hcd2 : c.2 = d.2 := by
        have := h c.1
        rwa [head, hcd, head] at this
      have : c = d := Prod.ext hcd hcd2
      subst this
      rw [ih (tail hm).1 (tail hm').1 fun a => ?_]
      by_cases ha : a = c.1
      · rw [ha, (tail hm).2, (tail hm').2]
      · have := h a
        simpa [Memory.readByte, Ne.symm ha] using this

/-! ### Several bytes -/

theorem toNat_sub_add_one {a b : Word} (h : b ≠ a) : (b - (a + 1)).toNat + 1 = (b - a).toNat := by
  have hne : (b - a).toNat ≠ 0 := by
    intro h0
    apply h
    have : b - a = 0 := BitVec.eq_of_toNat_eq (by simpa using h0)
    bv_omega
  bv_omega

/-- The bytes of a write of `n` bytes: those at `a .. a + n - 1` are the bytes of `v`, low first; every other byte is as
before. -/
theorem readByte_write (n : Nat) (hn : n ≤ 2 ^ 32) (a : Word) (v : Nat) (m : Memory) (b : Word) :
    (Memory.write n a v m).readByte b.toNat =
      if (b - a).toNat < n then BitVec.ofNat 8 (v / 256 ^ (b - a).toNat) else m.readByte b.toNat := by
  induction n generalizing a v m with
  | zero => simp [Memory.write]
  | succ n ih =>
    rw [Memory.write, ih (by omega)]
    by_cases hb : b = a
    · subst hb
      have h1 : ¬ (b - (b + 1)).toNat < n := by bv_omega
      rw [if_neg h1, readByte_writeByte, if_pos rfl]
      simp
    · have hk := toNat_sub_add_one hb
      have hne : ¬ b.toNat = a.toNat := fun e => hb (BitVec.eq_of_toNat_eq e)
      rw [readByte_writeByte, if_neg hne, ← hk]
      by_cases hlt : (b - (a + 1)).toNat < n
      · rw [if_pos hlt, if_pos (by omega), Nat.div_div_eq_div_mul, Nat.pow_succ, Nat.mul_comm]
      · rw [if_neg hlt, if_neg (by omega)]

/-! ### `dirty` -/

theorem mem_insertAddress (d : List Nat) (a x : Nat) : x ∈ insertAddress d a ↔ x ∈ d ∨ x = a := by
  induction d with
  | nil => simp [insertAddress]
  | cons b rest ih =>
    unfold insertAddress
    split
    · simp only [List.mem_cons]; tauto
    · split
      · next h => subst h; simp only [List.mem_cons]; tauto
      · simp only [List.mem_cons, ih]; tauto

theorem pairwise_insertAddress {d : List Nat} (hd : d.Pairwise (· < ·)) (a : Nat) :
    (insertAddress d a).Pairwise (· < ·) := by
  induction d with
  | nil => simp [insertAddress]
  | cons b rest ih =>
    have hp := List.pairwise_cons.1 hd
    unfold insertAddress
    split
    · next h =>
      refine List.pairwise_cons.2 ⟨fun x hx => ?_, hd⟩
      rcases List.mem_cons.1 hx with rfl | hx
      · exact h
      · exact Nat.lt_trans h (hp.1 x hx)
    · split
      · exact hd
      · next h1 h2 =>
        refine List.pairwise_cons.2 ⟨fun x hx => ?_, ih hp.2⟩
        rcases (mem_insertAddress _ _ _).1 hx with hx | rfl
        · exact hp.1 x hx
        · omega

theorem pairwise_markDirty {d : List Nat} (hd : d.Pairwise (· < ·)) (n : Nat) (a : Word) :
    (markDirty n a d).Pairwise (· < ·) := by
  induction n generalizing a d with
  | zero => exact hd
  | succ n ih => exact ih (pairwise_insertAddress hd _) _

/-- `dirty` after a store: the bytes stored to join it. -/
theorem mem_markDirty (n : Nat) (hn : n ≤ 2 ^ 32) (a : Word) (d : List Nat) (b : Word) :
    b.toNat ∈ markDirty n a d ↔ b.toNat ∈ d ∨ InRange b a n := by
  unfold InRange
  induction n generalizing a d with
  | zero => simp [markDirty]
  | succ n ih =>
    rw [markDirty, ih (by omega), mem_insertAddress]
    by_cases hb : b = a
    · subst hb; simp
    · have hk := toNat_sub_add_one hb
      have hne : ¬ b.toNat = a.toNat := fun e => hb (BitVec.eq_of_toNat_eq e)
      have hiff : (b - (a + 1)).toNat < n ↔ (b - a).toNat < n + 1 := by omega
      rw [hiff]; tauto

theorem lt_of_mem_markDirty {n : Nat} {a : Word} {d : List Nat} (hd : ∀ x ∈ d, x < 2 ^ 32) :
    ∀ x ∈ markDirty n a d, x < 2 ^ 32 := by
  induction n generalizing a d with
  | zero => exact hd
  | succ n ih =>
    refine ih fun x hx => ?_
    rcases (mem_insertAddress _ _ _).1 hx with hx | rfl
    · exact hd x hx
    · exact a.isLt

theorem mappedRange_iff (n : Nat) (hn : n ≤ 2 ^ 32) (a : Word) (s : State) :
    mappedRange n a s = true ↔ ∀ b, InRange b a n → mapped b s = true := by
  unfold InRange
  induction n generalizing a with
  | zero => simp [mappedRange]
  | succ n ih =>
    rw [mappedRange, Bool.and_eq_true, ih (by omega)]
    constructor
    · rintro ⟨h0, h1⟩ b hb
      by_cases hba : b = a
      · exact hba ▸ h0
      · exact h1 b (by have := toNat_sub_add_one hba; omega)
    · intro h
      refine ⟨h a (by simp), fun b hb => h b ?_⟩
      by_cases hba : b = a
      · subst hba; simp
      · have := toNat_sub_add_one hba; omega

theorem dirtyRange_iff (n : Nat) (hn : n ≤ 2 ^ 32) (a : Word) (s : State) :
    dirtyRange n a s = true ↔ ∃ b, InRange b a n ∧ b.toNat ∈ s.dirty := by
  unfold InRange
  induction n generalizing a with
  | zero => simp [dirtyRange]
  | succ n ih =>
    rw [dirtyRange, Bool.or_eq_true, ih (by omega), List.contains_iff_mem]
    constructor
    · rintro (h0 | ⟨b, hb, hd⟩)
      · exact ⟨a, by simp, h0⟩
      · refine ⟨b, ?_, hd⟩
        by_cases hba : b = a
        · subst hba; simp
        · have := toNat_sub_add_one hba; omega
    · rintro ⟨b, hb, hd⟩
      by_cases hba : b = a
      · exact .inl (hba ▸ hd)
      · exact .inr ⟨b, by have := toNat_sub_add_one hba; omega, hd⟩

theorem add_one_add_ofNat (a : Word) (k : Nat) : a + 1 + BitVec.ofNat 32 k = a + BitVec.ofNat 32 (k + 1) := by bv_omega

/-- `mappedRange`, offset by offset. -/
theorem mappedRange_offsets (n : Nat) (a : Word) (s : State) :
    mappedRange n a s = true ↔ ∀ k, k < n → mapped (a + BitVec.ofNat 32 k) s = true := by
  induction n generalizing a with
  | zero => simp [mappedRange]
  | succ n ih =>
    rw [mappedRange, Bool.and_eq_true, ih]
    constructor
    · rintro ⟨h0, h1⟩ k hk
      cases k with
      | zero => simpa using h0
      | succ k => rw [← add_one_add_ofNat]; exact h1 k (by omega)
    · exact fun h => ⟨by simpa using h 0 (by omega), fun k hk => by rw [add_one_add_ofNat]; exact h (k + 1) (by omega)⟩

/-- `dirtyRange`, offset by offset. -/
theorem dirtyRange_offsets (n : Nat) (a : Word) (s : State) :
    dirtyRange n a s = true ↔ ∃ k, k < n ∧ (a + BitVec.ofNat 32 k).toNat ∈ s.dirty := by
  induction n generalizing a with
  | zero => simp [dirtyRange]
  | succ n ih =>
    rw [dirtyRange, Bool.or_eq_true, ih, List.contains_iff_mem]
    constructor
    · rintro (h | ⟨k, hk, h⟩)
      · exact ⟨0, by omega, by simpa using h⟩
      · exact ⟨k + 1, by omega, by rw [← add_one_add_ofNat]; exact h⟩
    · rintro ⟨k, hk, h⟩
      cases k with
      | zero => exact .inl (by simpa using h)
      | succ k => exact .inr ⟨k, by omega, by rw [add_one_add_ofNat]; exact h⟩

end Sys2Proof.Machine
end

