-- ==== Sys2Proof/Laws/PerInstr.lean ====
section
/-! SUPPORT. Decoding the word of a well-formed instruction gives the instruction back, one lemma for each instruction. -/

namespace Sys2Proof.Laws.DecodeEncode

-- One thread: the lemmas wait for the same equations of the decoder.
set_option Elab.async false
set_option linter.unusedSimpArgs false

/-- The decoder reads the instruction back from its own word (30_encoding.md R104). -/
def Statement (i : Instr) : Prop := i.wellFormed = true → decode (encode i) = .ok i

theorem addW (rd rj rk : RegNo) : Statement (.addW rd rj rk) := by
  intro _
  simp [decode, encode, decodeOpcode6, decodeOpcode7, decodeOpcode8, decodeOpcode10, decodeOpcode12, decodeOpcode17, enc3R_op, enc3R_k, enc3R_j, enc3R_d, fieldD, fieldJ, fieldK]
theorem subW (rd rj rk : RegNo) : Statement (.subW rd rj rk) := by
  intro _
  simp [decode, encode, decodeOpcode6, decodeOpcode7, decodeOpcode8, decodeOpcode10, decodeOpcode12, decodeOpcode17, enc3R_op, enc3R_k, enc3R_j, enc3R_d, fieldD, fieldJ, fieldK]
theorem slt (rd rj rk : RegNo) : Statement (.slt rd rj rk) := by
  intro _
  simp [decode, encode, decodeOpcode6, decodeOpcode7, decodeOpcode8, decodeOpcode10, decodeOpcode12, decodeOpcode17, enc3R_op, enc3R_k, enc3R_j, enc3R_d, fieldD, fieldJ, fieldK]
theorem sltu (rd rj rk : RegNo) : Statement (.sltu rd rj rk) := by
  intro _
  simp [decode, encode, decodeOpcode6, decodeOpcode7, decodeOpcode8, decodeOpcode10, decodeOpcode12, decodeOpcode17, enc3R_op, enc3R_k, enc3R_j, enc3R_d, fieldD, fieldJ, fieldK]
theorem nor (rd rj rk : RegNo) : Statement (.nor rd rj rk) := by
  intro _
  simp [decode, encode, decodeOpcode6, decodeOpcode7, decodeOpcode8, decodeOpcode10, decodeOpcode12, decodeOpcode17, enc3R_op, enc3R_k, enc3R_j, enc3R_d, fieldD, fieldJ, fieldK]
theorem and (rd rj rk : RegNo) : Statement (.and rd rj rk) := by
  intro _
  simp [decode, encode, decodeOpcode6, decodeOpcode7, decodeOpcode8, decodeOpcode10, decodeOpcode12, decodeOpcode17, enc3R_op, enc3R_k, enc3R_j, enc3R_d, fieldD, fieldJ, fieldK]
theorem or (rd rj rk : RegNo) : Statement (.or rd rj rk) := by
  intro _
  simp [decode, encode, decodeOpcode6, decodeOpcode7, decodeOpcode8, decodeOpcode10, decodeOpcode12, decodeOpcode17, enc3R_op, enc3R_k, enc3R_j, enc3R_d, fieldD, fieldJ, fieldK]
theorem xor (rd rj rk : RegNo) : Statement (.xor rd rj rk) := by
  intro _
  simp [decode, encode, decodeOpcode6, decodeOpcode7, decodeOpcode8, decodeOpcode10, decodeOpcode12, decodeOpcode17, enc3R_op, enc3R_k, enc3R_j, enc3R_d, fieldD, fieldJ, fieldK]
theorem slti (rd rj : RegNo) (si12 : BitVec 12) : Statement (.slti rd rj si12) := by
  intro _
  simp [decode, encode, decodeOpcode6, decodeOpcode7, decodeOpcode8, decodeOpcode10, enc2RI12_op, enc2RI12_i, enc2RI12_j, enc2RI12_d, fieldD, fieldJ, fieldI12]
theorem sltui (rd rj : RegNo) (si12 : BitVec 12) : Statement (.sltui rd rj si12) := by
  intro _
  simp [decode, encode, decodeOpcode6, decodeOpcode7, decodeOpcode8, decodeOpcode10, enc2RI12_op, enc2RI12_i, enc2RI12_j, enc2RI12_d, fieldD, fieldJ, fieldI12]
theorem addiW (rd rj : RegNo) (si12 : BitVec 12) : Statement (.addiW rd rj si12) := by
  intro _
  simp [decode, encode, decodeOpcode6, decodeOpcode7, decodeOpcode8, decodeOpcode10, enc2RI12_op, enc2RI12_i, enc2RI12_j, enc2RI12_d, fieldD, fieldJ, fieldI12]
theorem andi (rd rj : RegNo) (ui12 : BitVec 12) : Statement (.andi rd rj ui12) := by
  intro h
  have hne : ¬ enc2RI12 0xD#10 ui12 rj rd = 0x03400000#32 := by
    intro he
    have h1 := enc2RI12_i 0xD#10 ui12 rj rd 10 12 (by omega) (by omega)
    have h2 := enc2RI12_j 0xD#10 ui12 rj rd 5 5 (by omega) (by omega)
    have h3 := enc2RI12_d 0xD#10 ui12 rj rd 0 5 (by omega)
    rw [he] at h1 h2 h3
    have h1' : ui12 = 0 := by simpa using h1.symm
    have h2' : rj = 0 := by simpa using h2.symm
    have h3' : rd = 0 := by simpa using h3.symm
    subst h1' h2' h3'
    exact absurd h (by decide)
  simp [decode, encode, decodeOpcode6, decodeOpcode7, decodeOpcode8, decodeOpcode10, enc2RI12_op, enc2RI12_i, enc2RI12_j, enc2RI12_d, fieldD, fieldJ, fieldI12, hne]
theorem ori (rd rj : RegNo) (ui12 : BitVec 12) : Statement (.ori rd rj ui12) := by
  intro _
  simp [decode, encode, decodeOpcode6, decodeOpcode7, decodeOpcode8, decodeOpcode10, enc2RI12_op, enc2RI12_i, enc2RI12_j, enc2RI12_d, fieldD, fieldJ, fieldI12]
theorem xori (rd rj : RegNo) (ui12 : BitVec 12) : Statement (.xori rd rj ui12) := by
  intro _
  simp [decode, encode, decodeOpcode6, decodeOpcode7, decodeOpcode8, decodeOpcode10, enc2RI12_op, enc2RI12_i, enc2RI12_j, enc2RI12_d, fieldD, fieldJ, fieldI12]
theorem lu12iW (rd : RegNo) (si20 : BitVec 20) : Statement (.lu12iW rd si20) := by
  intro _
  simp [decode, encode, decodeOpcode6, decodeOpcode7, enc1RI20_op, enc1RI20_i, enc1RI20_d, fieldD, fieldI20]
theorem pcaddu12i (rd : RegNo) (si20 : BitVec 20) : Statement (.pcaddu12i rd si20) := by
  intro _
  simp [decode, encode, decodeOpcode6, decodeOpcode7, enc1RI20_op, enc1RI20_i, enc1RI20_d, fieldD, fieldI20]
theorem nop : Statement .nop := by
  intro _; decide
theorem mulW (rd rj rk : RegNo) : Statement (.mulW rd rj rk) := by
  intro _
  simp [decode, encode, decodeOpcode6, decodeOpcode7, decodeOpcode8, decodeOpcode10, decodeOpcode12, decodeOpcode17, enc3R_op, enc3R_k, enc3R_j, enc3R_d, fieldD, fieldJ, fieldK]
theorem mulhW (rd rj rk : RegNo) : Statement (.mulhW rd rj rk) := by
  intro _
  simp [decode, encode, decodeOpcode6, decodeOpcode7, decodeOpcode8, decodeOpcode10, decodeOpcode12, decodeOpcode17, enc3R_op, enc3R_k, enc3R_j, enc3R_d, fieldD, fieldJ, fieldK]
theorem mulhWu (rd rj rk : RegNo) : Statement (.mulhWu rd rj rk) := by
  intro _
  simp [decode, encode, decodeOpcode6, decodeOpcode7, decodeOpcode8, decodeOpcode10, decodeOpcode12, decodeOpcode17, enc3R_op, enc3R_k, enc3R_j, enc3R_d, fieldD, fieldJ, fieldK]
theorem divW (rd rj rk : RegNo) : Statement (.divW rd rj rk) := by
  intro _
  simp [decode, encode, decodeOpcode6, decodeOpcode7, decodeOpcode8, decodeOpcode10, decodeOpcode12, decodeOpcode17, enc3R_op, enc3R_k, enc3R_j, enc3R_d, fieldD, fieldJ, fieldK]
theorem modW (rd rj rk : RegNo) : Statement (.modW rd rj rk) := by
  intro _
  simp [decode, encode, decodeOpcode6, decodeOpcode7, decodeOpcode8, decodeOpcode10, decodeOpcode12, decodeOpcode17, enc3R_op, enc3R_k, enc3R_j, enc3R_d, fieldD, fieldJ, fieldK]
theorem divWu (rd rj rk : RegNo) : Statement (.divWu rd rj rk) := by
  intro _
  simp [decode, encode, decodeOpcode6, decodeOpcode7, decodeOpcode8, decodeOpcode10, decodeOpcode12, decodeOpcode17, enc3R_op, enc3R_k, enc3R_j, enc3R_d, fieldD, fieldJ, fieldK]
theorem modWu (rd rj rk : RegNo) : Statement (.modWu rd rj rk) := by
  intro _
  simp [decode, encode, decodeOpcode6, decodeOpcode7, decodeOpcode8, decodeOpcode10, decodeOpcode12, decodeOpcode17, enc3R_op, enc3R_k, enc3R_j, enc3R_d, fieldD, fieldJ, fieldK]
theorem sllW (rd rj rk : RegNo) : Statement (.sllW rd rj rk) := by
  intro _
  simp [decode, encode, decodeOpcode6, decodeOpcode7, decodeOpcode8, decodeOpcode10, decodeOpcode12, decodeOpcode17, enc3R_op, enc3R_k, enc3R_j, enc3R_d, fieldD, fieldJ, fieldK]
theorem srlW (rd rj rk : RegNo) : Statement (.srlW rd rj rk) := by
  intro _
  simp [decode, encode, decodeOpcode6, decodeOpcode7, decodeOpcode8, decodeOpcode10, decodeOpcode12, decodeOpcode17, enc3R_op, enc3R_k, enc3R_j, enc3R_d, fieldD, fieldJ, fieldK]
theorem sraW (rd rj rk : RegNo) : Statement (.sraW rd rj rk) := by
  intro _
  simp [decode, encode, decodeOpcode6, decodeOpcode7, decodeOpcode8, decodeOpcode10, decodeOpcode12, decodeOpcode17, enc3R_op, enc3R_k, enc3R_j, enc3R_d, fieldD, fieldJ, fieldK]
theorem slliW (rd rj : RegNo) (ui5 : BitVec 5) : Statement (.slliW rd rj ui5) := by
  intro _
  simp [decode, encode, decodeOpcode6, decodeOpcode7, decodeOpcode8, decodeOpcode10, decodeOpcode12, decodeOpcode17, enc3R_op, enc3R_k, enc3R_j, enc3R_d, fieldD, fieldJ, fieldK]
theorem srliW (rd rj : RegNo) (ui5 : BitVec 5) : Statement (.srliW rd rj ui5) := by
  intro _
  simp [decode, encode, decodeOpcode6, decodeOpcode7, decodeOpcode8, decodeOpcode10, decodeOpcode12, decodeOpcode17, enc3R_op, enc3R_k, enc3R_j, enc3R_d, fieldD, fieldJ, fieldK]
theorem sraiW (rd rj : RegNo) (ui5 : BitVec 5) : Statement (.sraiW rd rj ui5) := by
  intro _
  simp [decode, encode, decodeOpcode6, decodeOpcode7, decodeOpcode8, decodeOpcode10, decodeOpcode12, decodeOpcode17, enc3R_op, enc3R_k, enc3R_j, enc3R_d, fieldD, fieldJ, fieldK]
theorem jirl (rd rj : RegNo) (offs16 : BitVec 16) : Statement (.jirl rd rj offs16) := by
  intro _
  simp [decode, encode, decodeOpcode6, enc2RI16_op, enc2RI16_i, enc2RI16_j, enc2RI16_d, fieldD, fieldJ, fieldOffs16]
theorem b (offs26 : BitVec 26) : Statement (.b offs26) := by
  intro _
  simp [decode, encode, decodeOpcode6, enc2RI16_op, enc2RI16_i, enc2RI16_j, enc2RI16_d, fieldD, fieldJ, fieldOffs16, fieldOffs26, offs26_parts, enc2RI16_jd]
theorem bl (offs26 : BitVec 26) : Statement (.bl offs26) := by
  intro _
  simp [decode, encode, decodeOpcode6, enc2RI16_op, enc2RI16_i, enc2RI16_j, enc2RI16_d, fieldD, fieldJ, fieldOffs16, fieldOffs26, offs26_parts, enc2RI16_jd]
theorem beq (rj rd : RegNo) (offs16 : BitVec 16) : Statement (.beq rj rd offs16) := by
  intro _
  simp [decode, encode, decodeOpcode6, enc2RI16_op, enc2RI16_i, enc2RI16_j, enc2RI16_d, fieldD, fieldJ, fieldOffs16]
theorem bne (rj rd : RegNo) (offs16 : BitVec 16) : Statement (.bne rj rd offs16) := by
  intro _
  simp [decode, encode, decodeOpcode6, enc2RI16_op, enc2RI16_i, enc2RI16_j, enc2RI16_d, fieldD, fieldJ, fieldOffs16]
theorem blt (rj rd : RegNo) (offs16 : BitVec 16) : Statement (.blt rj rd offs16) := by
  intro _
  simp [decode, encode, decodeOpcode6, enc2RI16_op, enc2RI16_i, enc2RI16_j, enc2RI16_d, fieldD, fieldJ, fieldOffs16]
theorem bge (rj rd : RegNo) (offs16 : BitVec 16) : Statement (.bge rj rd offs16) := by
  intro _
  simp [decode, encode, decodeOpcode6, enc2RI16_op, enc2RI16_i, enc2RI16_j, enc2RI16_d, fieldD, fieldJ, fieldOffs16]
theorem bltu (rj rd : RegNo) (offs16 : BitVec 16) : Statement (.bltu rj rd offs16) := by
  intro _
  simp [decode, encode, decodeOpcode6, enc2RI16_op, enc2RI16_i, enc2RI16_j, enc2RI16_d, fieldD, fieldJ, fieldOffs16]
theorem bgeu (rj rd : RegNo) (offs16 : BitVec 16) : Statement (.bgeu rj rd offs16) := by
  intro _
  simp [decode, encode, decodeOpcode6, enc2RI16_op, enc2RI16_i, enc2RI16_j, enc2RI16_d, fieldD, fieldJ, fieldOffs16]
theorem ldB (rd rj : RegNo) (si12 : BitVec 12) : Statement (.ldB rd rj si12) := by
  intro _
  simp [decode, encode, decodeOpcode6, decodeOpcode7, decodeOpcode8, decodeOpcode10, enc2RI12_op, enc2RI12_i, enc2RI12_j, enc2RI12_d, fieldD, fieldJ, fieldI12]
theorem ldH (rd rj : RegNo) (si12 : BitVec 12) : Statement (.ldH rd rj si12) := by
  intro _
  simp [decode, encode, decodeOpcode6, decodeOpcode7, decodeOpcode8, decodeOpcode10, enc2RI12_op, enc2RI12_i, enc2RI12_j, enc2RI12_d, fieldD, fieldJ, fieldI12]
theorem ldW (rd rj : RegNo) (si12 : BitVec 12) : Statement (.ldW rd rj si12) := by
  intro _
  simp [decode, encode, decodeOpcode6, decodeOpcode7, decodeOpcode8, decodeOpcode10, enc2RI12_op, enc2RI12_i, enc2RI12_j, enc2RI12_d, fieldD, fieldJ, fieldI12]
theorem stB (rd rj : RegNo) (si12 : BitVec 12) : Statement (.stB rd rj si12) := by
  intro _
  simp [decode, encode, decodeOpcode6, decodeOpcode7, decodeOpcode8, decodeOpcode10, enc2RI12_op, enc2RI12_i, enc2RI12_j, enc2RI12_d, fieldD, fieldJ, fieldI12]
theorem stH (rd rj : RegNo) (si12 : BitVec 12) : Statement (.stH rd rj si12) := by
  intro _
  simp [decode, encode, decodeOpcode6, decodeOpcode7, decodeOpcode8, decodeOpcode10, enc2RI12_op, enc2RI12_i, enc2RI12_j, enc2RI12_d, fieldD, fieldJ, fieldI12]
theorem stW (rd rj : RegNo) (si12 : BitVec 12) : Statement (.stW rd rj si12) := by
  intro _
  simp [decode, encode, decodeOpcode6, decodeOpcode7, decodeOpcode8, decodeOpcode10, enc2RI12_op, enc2RI12_i, enc2RI12_j, enc2RI12_d, fieldD, fieldJ, fieldI12]
theorem ldBu (rd rj : RegNo) (si12 : BitVec 12) : Statement (.ldBu rd rj si12) := by
  intro _
  simp [decode, encode, decodeOpcode6, decodeOpcode7, decodeOpcode8, decodeOpcode10, enc2RI12_op, enc2RI12_i, enc2RI12_j, enc2RI12_d, fieldD, fieldJ, fieldI12]
theorem ldHu (rd rj : RegNo) (si12 : BitVec 12) : Statement (.ldHu rd rj si12) := by
  intro _
  simp [decode, encode, decodeOpcode6, decodeOpcode7, decodeOpcode8, decodeOpcode10, enc2RI12_op, enc2RI12_i, enc2RI12_j, enc2RI12_d, fieldD, fieldJ, fieldI12]
theorem preld (hint : BitVec 5) (rj : RegNo) (si12 : BitVec 12) : Statement (.preld hint rj si12) := by
  intro _
  simp [decode, encode, decodeOpcode6, decodeOpcode7, decodeOpcode8, decodeOpcode10, enc2RI12_op, enc2RI12_i, enc2RI12_j, enc2RI12_d, fieldD, fieldJ, fieldI12]
theorem llW (rd rj : RegNo) (si14 : BitVec 14) : Statement (.llW rd rj si14) := by
  intro _
  simp [decode, encode, decodeOpcode6, decodeOpcode7, decodeOpcode8, enc2RI14_op, enc2RI14_i, enc2RI14_j, enc2RI14_d, fieldD, fieldJ, fieldI14]
theorem scW (rd rj : RegNo) (si14 : BitVec 14) : Statement (.scW rd rj si14) := by
  intro _
  simp [decode, encode, decodeOpcode6, decodeOpcode7, decodeOpcode8, enc2RI14_op, enc2RI14_i, enc2RI14_j, enc2RI14_d, fieldD, fieldJ, fieldI14]
theorem dbar (hint : BitVec 15) : Statement (.dbar hint) := by
  intro _
  simp [decode, encode, decodeOpcode6, decodeOpcode7, decodeOpcode8, decodeOpcode10, decodeOpcode12, decodeOpcode17, encCode15_op, encCode15_code, fieldCode]
theorem ibar (hint : BitVec 15) : Statement (.ibar hint) := by
  intro _
  simp [decode, encode, decodeOpcode6, decodeOpcode7, decodeOpcode8, decodeOpcode10, decodeOpcode12, decodeOpcode17, encCode15_op, encCode15_code, fieldCode]
theorem rdcntid (rj : RegNo) : Statement (.rdcntid rj) := by
  intro _
  simp [decode, encode, decodeOpcode6, decodeOpcode7, decodeOpcode8, decodeOpcode10, decodeOpcode12, decodeOpcode17, decodeOpcode22, enc2R_op, enc2R_j, enc2R_d, fieldD, fieldJ]
theorem rdcntvlW (rd : RegNo) : Statement (.rdcntvlW rd) := by
  intro h
  simp [Instr.wellFormed, rdcntvlOperandOk] at h
  simp [decode, encode, decodeOpcode6, decodeOpcode7, decodeOpcode8, decodeOpcode10, decodeOpcode12, decodeOpcode17, decodeOpcode22, enc2R_op, enc2R_j, enc2R_d, fieldD, fieldJ, constantBits, h]
theorem rdcntvhW (rd : RegNo) : Statement (.rdcntvhW rd) := by
  intro _
  simp [decode, encode, decodeOpcode6, decodeOpcode7, decodeOpcode8, decodeOpcode10, decodeOpcode12, decodeOpcode17, decodeOpcode22, enc2R_op, enc2R_j, enc2R_d, fieldD, fieldJ, constantBits]
theorem brk (code : BitVec 15) : Statement (.brk code) := by
  intro _
  simp [decode, encode, decodeOpcode6, decodeOpcode7, decodeOpcode8, decodeOpcode10, decodeOpcode12, decodeOpcode17, encCode15_op, encCode15_code, fieldCode]
theorem syscall (code : BitVec 15) : Statement (.syscall code) := by
  intro _
  simp [decode, encode, decodeOpcode6, decodeOpcode7, decodeOpcode8, decodeOpcode10, decodeOpcode12, decodeOpcode17, encCode15_op, encCode15_code, fieldCode]
theorem csrrd (rd : RegNo) (csr : BitVec 14) : Statement (.csrrd rd csr) := by
  intro _
  simp [decode, encode, decodeOpcode6, decodeOpcode7, decodeOpcode8, enc2RI14_op, enc2RI14_i, enc2RI14_j, enc2RI14_d, fieldD, fieldJ, fieldI14]
theorem csrwr (rd : RegNo) (csr : BitVec 14) : Statement (.csrwr rd csr) := by
  intro _
  simp [decode, encode, decodeOpcode6, decodeOpcode7, decodeOpcode8, enc2RI14_op, enc2RI14_i, enc2RI14_j, enc2RI14_d, fieldD, fieldJ, fieldI14]
theorem csrxchg (rd rj : RegNo) (csr : BitVec 14) : Statement (.csrxchg rd rj csr) := by
  intro h
  simp [Instr.wellFormed, csrxchgOperandOk] at h
  simp [decode, encode, decodeOpcode6, decodeOpcode7, decodeOpcode8, enc2RI14_op, enc2RI14_i, enc2RI14_j, enc2RI14_d, fieldD, fieldJ, fieldI14, h]
theorem cacop (code : BitVec 5) (rj : RegNo) (si12 : BitVec 12) : Statement (.cacop code rj si12) := by
  intro _
  simp [decode, encode, decodeOpcode6, decodeOpcode7, decodeOpcode8, decodeOpcode10, enc2RI12_op, enc2RI12_i, enc2RI12_j, enc2RI12_d, fieldD, fieldJ, fieldI12]
theorem tlbsrch : Statement .tlbsrch := by
  intro _; decide
theorem tlbrd : Statement .tlbrd := by
  intro _; decide
theorem tlbwr : Statement .tlbwr := by
  intro _; decide
theorem tlbfill : Statement .tlbfill := by
  intro _; decide
theorem ertn : Statement .ertn := by
  intro _; decide
theorem idle (level : BitVec 15) : Statement (.idle level) := by
  intro _
  simp [decode, encode, decodeOpcode6, decodeOpcode7, decodeOpcode8, decodeOpcode10, decodeOpcode12, decodeOpcode17, encCode15_op, encCode15_code, fieldCode]
theorem invtlb (op : BitVec 5) (rj rk : RegNo) : Statement (.invtlb op rj rk) := by
  intro _
  simp [decode, encode, decodeOpcode6, decodeOpcode7, decodeOpcode8, decodeOpcode10, decodeOpcode12, decodeOpcode17, enc3R_op, enc3R_k, enc3R_j, enc3R_d, fieldD, fieldJ, fieldK]
theorem faddS (fd fj fk : FprNo) : Statement (.faddS fd fj fk) := by
  intro _
  simp [decode, encode, decodeOpcode6, decodeOpcode7, decodeOpcode8, decodeOpcode10, decodeOpcode12, decodeOpcode17, enc3R_op, enc3R_k, enc3R_j, enc3R_d, fieldD, fieldJ, fieldK]
theorem faddD (fd fj fk : FprNo) : Statement (.faddD fd fj fk) := by
  intro _
  simp [decode, encode, decodeOpcode6, decodeOpcode7, decodeOpcode8, decodeOpcode10, decodeOpcode12, decodeOpcode17, enc3R_op, enc3R_k, enc3R_j, enc3R_d, fieldD, fieldJ, fieldK]
theorem fsubS (fd fj fk : FprNo) : Statement (.fsubS fd fj fk) := by
  intro _
  simp [decode, encode, decodeOpcode6, decodeOpcode7, decodeOpcode8, decodeOpcode10, decodeOpcode12, decodeOpcode17, enc3R_op, enc3R_k, enc3R_j, enc3R_d, fieldD, fieldJ, fieldK]
theorem fsubD (fd fj fk : FprNo) : Statement (.fsubD fd fj fk) := by
  intro _
  simp [decode, encode, decodeOpcode6, decodeOpcode7, decodeOpcode8, decodeOpcode10, decodeOpcode12, decodeOpcode17, enc3R_op, enc3R_k, enc3R_j, enc3R_d, fieldD, fieldJ, fieldK]
theorem fmulS (fd fj fk : FprNo) : Statement (.fmulS fd fj fk) := by
  intro _
  simp [decode, encode, decodeOpcode6, decodeOpcode7, decodeOpcode8, decodeOpcode10, decodeOpcode12, decodeOpcode17, enc3R_op, enc3R_k, enc3R_j, enc3R_d, fieldD, fieldJ, fieldK]
theorem fmulD (fd fj fk : FprNo) : Statement (.fmulD fd fj fk) := by
  intro _
  simp [decode, encode, decodeOpcode6, decodeOpcode7, decodeOpcode8, decodeOpcode10, decodeOpcode12, decodeOpcode17, enc3R_op, enc3R_k, enc3R_j, enc3R_d, fieldD, fieldJ, fieldK]
theorem fdivS (fd fj fk : FprNo) : Statement (.fdivS fd fj fk) := by
  intro _
  simp [decode, encode, decodeOpcode6, decodeOpcode7, decodeOpcode8, decodeOpcode10, decodeOpcode12, decodeOpcode17, enc3R_op, enc3R_k, enc3R_j, enc3R_d, fieldD, fieldJ, fieldK]
theorem fdivD (fd fj fk : FprNo) : Statement (.fdivD fd fj fk) := by
  intro _
  simp [decode, encode, decodeOpcode6, decodeOpcode7, decodeOpcode8, decodeOpcode10, decodeOpcode12, decodeOpcode17, enc3R_op, enc3R_k, enc3R_j, enc3R_d, fieldD, fieldJ, fieldK]
theorem fmaxS (fd fj fk : FprNo) : Statement (.fmaxS fd fj fk) := by
  intro _
  simp [decode, encode, decodeOpcode6, decodeOpcode7, decodeOpcode8, decodeOpcode10, decodeOpcode12, decodeOpcode17, enc3R_op, enc3R_k, enc3R_j, enc3R_d, fieldD, fieldJ, fieldK]
theorem fmaxD (fd fj fk : FprNo) : Statement (.fmaxD fd fj fk) := by
  intro _
  simp [decode, encode, decodeOpcode6, decodeOpcode7, decodeOpcode8, decodeOpcode10, decodeOpcode12, decodeOpcode17, enc3R_op, enc3R_k, enc3R_j, enc3R_d, fieldD, fieldJ, fieldK]
theorem fminS (fd fj fk : FprNo) : Statement (.fminS fd fj fk) := by
  intro _
  simp [decode, encode, decodeOpcode6, decodeOpcode7, decodeOpcode8, decodeOpcode10, decodeOpcode12, decodeOpcode17, enc3R_op, enc3R_k, enc3R_j, enc3R_d, fieldD, fieldJ, fieldK]
theorem fminD (fd fj fk : FprNo) : Statement (.fminD fd fj fk) := by
  intro _
  simp [decode, encode, decodeOpcode6, decodeOpcode7, decodeOpcode8, decodeOpcode10, decodeOpcode12, decodeOpcode17, enc3R_op, enc3R_k, enc3R_j, enc3R_d, fieldD, fieldJ, fieldK]
theorem fmaxaS (fd fj fk : FprNo) : Statement (.fmaxaS fd fj fk) := by
  intro _
  simp [decode, encode, decodeOpcode6, decodeOpcode7, decodeOpcode8, decodeOpcode10, decodeOpcode12, decodeOpcode17, enc3R_op, enc3R_k, enc3R_j, enc3R_d, fieldD, fieldJ, fieldK]
theorem fmaxaD (fd fj fk : FprNo) : Statement (.fmaxaD fd fj fk) := by
  intro _
  simp [decode, encode, decodeOpcode6, decodeOpcode7, decodeOpcode8, decodeOpcode10, decodeOpcode12, decodeOpcode17, enc3R_op, enc3R_k, enc3R_j, enc3R_d, fieldD, fieldJ, fieldK]
theorem fminaS (fd fj fk : FprNo) : Statement (.fminaS fd fj fk) := by
  intro _
  simp [decode, encode, decodeOpcode6, decodeOpcode7, decodeOpcode8, decodeOpcode10, decodeOpcode12, decodeOpcode17, enc3R_op, enc3R_k, enc3R_j, enc3R_d, fieldD, fieldJ, fieldK]
theorem fminaD (fd fj fk : FprNo) : Statement (.fminaD fd fj fk) := by
  intro _
  simp [decode, encode, decodeOpcode6, decodeOpcode7, decodeOpcode8, decodeOpcode10, decodeOpcode12, decodeOpcode17, enc3R_op, enc3R_k, enc3R_j, enc3R_d, fieldD, fieldJ, fieldK]
theorem fcopysignS (fd fj fk : FprNo) : Statement (.fcopysignS fd fj fk) := by
  intro _
  simp [decode, encode, decodeOpcode6, decodeOpcode7, decodeOpcode8, decodeOpcode10, decodeOpcode12, decodeOpcode17, enc3R_op, enc3R_k, enc3R_j, enc3R_d, fieldD, fieldJ, fieldK]
theorem fcopysignD (fd fj fk : FprNo) : Statement (.fcopysignD fd fj fk) := by
  intro _
  simp [decode, encode, decodeOpcode6, decodeOpcode7, decodeOpcode8, decodeOpcode10, decodeOpcode12, decodeOpcode17, enc3R_op, enc3R_k, enc3R_j, enc3R_d, fieldD, fieldJ, fieldK]
theorem fabsS (fd fj : FprNo) : Statement (.fabsS fd fj) := by
  intro _
  simp [decode, encode, decodeOpcode6, decodeOpcode7, decodeOpcode8, decodeOpcode10, decodeOpcode12, decodeOpcode17, decodeOpcode22, enc2R_op, enc2R_j, enc2R_d, fieldD, fieldJ]
theorem fabsD (fd fj : FprNo) : Statement (.fabsD fd fj) := by
  intro _
  simp [decode, encode, decodeOpcode6, decodeOpcode7, decodeOpcode8, decodeOpcode10, decodeOpcode12, decodeOpcode17, decodeOpcode22, enc2R_op, enc2R_j, enc2R_d, fieldD, fieldJ]
theorem fnegS (fd fj : FprNo) : Statement (.fnegS fd fj) := by
  intro _
  simp [decode, encode, decodeOpcode6, decodeOpcode7, decodeOpcode8, decodeOpcode10, decodeOpcode12, decodeOpcode17, decodeOpcode22, enc2R_op, enc2R_j, enc2R_d, fieldD, fieldJ]
theorem fnegD (fd fj : FprNo) : Statement (.fnegD fd fj) := by
  intro _
  simp [decode, encode, decodeOpcode6, decodeOpcode7, decodeOpcode8, decodeOpcode10, decodeOpcode12, decodeOpcode17, decodeOpcode22, enc2R_op, enc2R_j, enc2R_d, fieldD, fieldJ]
theorem fclassS (fd fj : FprNo) : Statement (.fclassS fd fj) := by
  intro _
  simp [decode, encode, decodeOpcode6, decodeOpcode7, decodeOpcode8, decodeOpcode10, decodeOpcode12, decodeOpcode17, decodeOpcode22, enc2R_op, enc2R_j, enc2R_d, fieldD, fieldJ]
theorem fclassD (fd fj : FprNo) : Statement (.fclassD fd fj) := by
  intro _
  simp [decode, encode, decodeOpcode6, decodeOpcode7, decodeOpcode8, decodeOpcode10, decodeOpcode12, decodeOpcode17, decodeOpcode22, enc2R_op, enc2R_j, enc2R_d, fieldD, fieldJ]
theorem fsqrtS (fd fj : FprNo) : Statement (.fsqrtS fd fj) := by
  intro _
  simp [decode, encode, decodeOpcode6, decodeOpcode7, decodeOpcode8, decodeOpcode10, decodeOpcode12, decodeOpcode17, decodeOpcode22, enc2R_op, enc2R_j, enc2R_d, fieldD, fieldJ]
theorem fsqrtD (fd fj : FprNo) : Statement (.fsqrtD fd fj) := by
  intro _
  simp [decode, encode, decodeOpcode6, decodeOpcode7, decodeOpcode8, decodeOpcode10, decodeOpcode12, decodeOpcode17, decodeOpcode22, enc2R_op, enc2R_j, enc2R_d, fieldD, fieldJ]
theorem frecipS (fd fj : FprNo) : Statement (.frecipS fd fj) := by
  intro _
  simp [decode, encode, decodeOpcode6, decodeOpcode7, decodeOpcode8, decodeOpcode10, decodeOpcode12, decodeOpcode17, decodeOpcode22, enc2R_op, enc2R_j, enc2R_d, fieldD, fieldJ]
theorem frecipD (fd fj : FprNo) : Statement (.frecipD fd fj) := by
  intro _
  simp [decode, encode, decodeOpcode6, decodeOpcode7, decodeOpcode8, decodeOpcode10, decodeOpcode12, decodeOpcode17, decodeOpcode22, enc2R_op, enc2R_j, enc2R_d, fieldD, fieldJ]
theorem frsqrtS (fd fj : FprNo) : Statement (.frsqrtS fd fj) := by
  intro _
  simp [decode, encode, decodeOpcode6, decodeOpcode7, decodeOpcode8, decodeOpcode10, decodeOpcode12, decodeOpcode17, decodeOpcode22, enc2R_op, enc2R_j, enc2R_d, fieldD, fieldJ]
theorem frsqrtD (fd fj : FprNo) : Statement (.frsqrtD fd fj) := by
  intro _
  simp [decode, encode, decodeOpcode6, decodeOpcode7, decodeOpcode8, decodeOpcode10, decodeOpcode12, decodeOpcode17, decodeOpcode22, enc2R_op, enc2R_j, enc2R_d, fieldD, fieldJ]
theorem fmaddS (fd fj fk fa : FprNo) : Statement (.fmaddS fd fj fk fa) := by
  intro _
  simp [decode, encode, decodeOpcode6, decodeOpcode7, decodeOpcode8, decodeOpcode10, decodeOpcode12, enc4R_op, enc4R_a, enc4R_k, enc4R_j, enc4R_d, fieldD, fieldJ, fieldK, fieldA]
theorem fmaddD (fd fj fk fa : FprNo) : Statement (.fmaddD fd fj fk fa) := by
  intro _
  simp [decode, encode, decodeOpcode6, decodeOpcode7, decodeOpcode8, decodeOpcode10, decodeOpcode12, enc4R_op, enc4R_a, enc4R_k, enc4R_j, enc4R_d, fieldD, fieldJ, fieldK, fieldA]
theorem fmsubS (fd fj fk fa : FprNo) : Statement (.fmsubS fd fj fk fa) := by
  intro _
  simp [decode, encode, decodeOpcode6, decodeOpcode7, decodeOpcode8, decodeOpcode10, decodeOpcode12, enc4R_op, enc4R_a, enc4R_k, enc4R_j, enc4R_d, fieldD, fieldJ, fieldK, fieldA]
theorem fmsubD (fd fj fk fa : FprNo) : Statement (.fmsubD fd fj fk fa) := by
  intro _
  simp [decode, encode, decodeOpcode6, decodeOpcode7, decodeOpcode8, decodeOpcode10, decodeOpcode12, enc4R_op, enc4R_a, enc4R_k, enc4R_j, enc4R_d, fieldD, fieldJ, fieldK, fieldA]
theorem fnmaddS (fd fj fk fa : FprNo) : Statement (.fnmaddS fd fj fk fa) := by
  intro _
  simp [decode, encode, decodeOpcode6, decodeOpcode7, decodeOpcode8, decodeOpcode10, decodeOpcode12, enc4R_op, enc4R_a, enc4R_k, enc4R_j, enc4R_d, fieldD, fieldJ, fieldK, fieldA]
theorem fnmaddD (fd fj fk fa : FprNo) : Statement (.fnmaddD fd fj fk fa) := by
  intro _
  simp [decode, encode, decodeOpcode6, decodeOpcode7, decodeOpcode8, decodeOpcode10, decodeOpcode12, enc4R_op, enc4R_a, enc4R_k, enc4R_j, enc4R_d, fieldD, fieldJ, fieldK, fieldA]
theorem fnmsubS (fd fj fk fa : FprNo) : Statement (.fnmsubS fd fj fk fa) := by
  intro _
  simp [decode, encode, decodeOpcode6, decodeOpcode7, decodeOpcode8, decodeOpcode10, decodeOpcode12, enc4R_op, enc4R_a, enc4R_k, enc4R_j, enc4R_d, fieldD, fieldJ, fieldK, fieldA]
theorem fnmsubD (fd fj fk fa : FprNo) : Statement (.fnmsubD fd fj fk fa) := by
  intro _
  simp [decode, encode, decodeOpcode6, decodeOpcode7, decodeOpcode8, decodeOpcode10, decodeOpcode12, enc4R_op, enc4R_a, enc4R_k, enc4R_j, enc4R_d, fieldD, fieldJ, fieldK, fieldA]
theorem fcvtSD (fd fj : FprNo) : Statement (.fcvtSD fd fj) := by
  intro _
  simp [decode, encode, decodeOpcode6, decodeOpcode7, decodeOpcode8, decodeOpcode10, decodeOpcode12, decodeOpcode17, decodeOpcode22, enc2R_op, enc2R_j, enc2R_d, fieldD, fieldJ]
theorem fcvtDS (fd fj : FprNo) : Statement (.fcvtDS fd fj) := by
  intro _
  simp [decode, encode, decodeOpcode6, decodeOpcode7, decodeOpcode8, decodeOpcode10, decodeOpcode12, decodeOpcode17, decodeOpcode22, enc2R_op, enc2R_j, enc2R_d, fieldD, fieldJ]
theorem ftintrmWS (fd fj : FprNo) : Statement (.ftintrmWS fd fj) := by
  intro _
  simp [decode, encode, decodeOpcode6, decodeOpcode7, decodeOpcode8, decodeOpcode10, decodeOpcode12, decodeOpcode17, decodeOpcode22, enc2R_op, enc2R_j, enc2R_d, fieldD, fieldJ]
theorem ftintrmWD (fd fj : FprNo) : Statement (.ftintrmWD fd fj) := by
  intro _
  simp [decode, encode, decodeOpcode6, decodeOpcode7, decodeOpcode8, decodeOpcode10, decodeOpcode12, decodeOpcode17, decodeOpcode22, enc2R_op, enc2R_j, enc2R_d, fieldD, fieldJ]
theorem ftintrpWS (fd fj : FprNo) : Statement (.ftintrpWS fd fj) := by
  intro _
  simp [decode, encode, decodeOpcode6, decodeOpcode7, decodeOpcode8, decodeOpcode10, decodeOpcode12, decodeOpcode17, decodeOpcode22, enc2R_op, enc2R_j, enc2R_d, fieldD, fieldJ]
theorem ftintrpWD (fd fj : FprNo) : Statement (.ftintrpWD fd fj) := by
  intro _
  simp [decode, encode, decodeOpcode6, decodeOpcode7, decodeOpcode8, decodeOpcode10, decodeOpcode12, decodeOpcode17, decodeOpcode22, enc2R_op, enc2R_j, enc2R_d, fieldD, fieldJ]
theorem ftintrzWS (fd fj : FprNo) : Statement (.ftintrzWS fd fj) := by
  intro _
  simp [decode, encode, decodeOpcode6, decodeOpcode7, decodeOpcode8, decodeOpcode10, decodeOpcode12, decodeOpcode17, decodeOpcode22, enc2R_op, enc2R_j, enc2R_d, fieldD, fieldJ]
theorem ftintrzWD (fd fj : FprNo) : Statement (.ftintrzWD fd fj) := by
  intro _
  simp [decode, encode, decodeOpcode6, decodeOpcode7, decodeOpcode8, decodeOpcode10, decodeOpcode12, decodeOpcode17, decodeOpcode22, enc2R_op, enc2R_j, enc2R_d, fieldD, fieldJ]
theorem ftintrneWS (fd fj : FprNo) : Statement (.ftintrneWS fd fj) := by
  intro _
  simp [decode, encode, decodeOpcode6, decodeOpcode7, decodeOpcode8, decodeOpcode10, decodeOpcode12, decodeOpcode17, decodeOpcode22, enc2R_op, enc2R_j, enc2R_d, fieldD, fieldJ]
theorem ftintrneWD (fd fj : FprNo) : Statement (.ftintrneWD fd fj) := by
  intro _
  simp [decode, encode, decodeOpcode6, decodeOpcode7, decodeOpcode8, decodeOpcode10, decodeOpcode12, decodeOpcode17, decodeOpcode22, enc2R_op, enc2R_j, enc2R_d, fieldD, fieldJ]
theorem ftintWS (fd fj : FprNo) : Statement (.ftintWS fd fj) := by
  intro _
  simp [decode, encode, decodeOpcode6, decodeOpcode7, decodeOpcode8, decodeOpcode10, decodeOpcode12, decodeOpcode17, decodeOpcode22, enc2R_op, enc2R_j, enc2R_d, fieldD, fieldJ]
theorem ftintWD (fd fj : FprNo) : Statement (.ftintWD fd fj) := by
  intro _
  simp [decode, encode, decodeOpcode6, decodeOpcode7, decodeOpcode8, decodeOpcode10, decodeOpcode12, decodeOpcode17, decodeOpcode22, enc2R_op, enc2R_j, enc2R_d, fieldD, fieldJ]
theorem ffintSW (fd fj : FprNo) : Statement (.ffintSW fd fj) := by
  intro _
  simp [decode, encode, decodeOpcode6, decodeOpcode7, decodeOpcode8, decodeOpcode10, decodeOpcode12, decodeOpcode17, decodeOpcode22, enc2R_op, enc2R_j, enc2R_d, fieldD, fieldJ]
theorem ffintDW (fd fj : FprNo) : Statement (.ffintDW fd fj) := by
  intro _
  simp [decode, encode, decodeOpcode6, decodeOpcode7, decodeOpcode8, decodeOpcode10, decodeOpcode12, decodeOpcode17, decodeOpcode22, enc2R_op, enc2R_j, enc2R_d, fieldD, fieldJ]
theorem fcmpS (cond : BitVec 5) (cd : CfNo) (fj fk : FprNo) : Statement (.fcmpS cond cd fj fk) := by
  intro _
  simp [decode, encode, decodeOpcode6, decodeOpcode7, decodeOpcode8, decodeOpcode10, decodeOpcode12, enc4R_op, enc4R_a, enc4R_k, enc4R_j, enc4R_d, fieldD, fieldJ, fieldK, fieldA, fieldCd, fieldCj, fieldCa, constantBits, flagSlot_number, flagSlot_top]
theorem fcmpD (cond : BitVec 5) (cd : CfNo) (fj fk : FprNo) : Statement (.fcmpD cond cd fj fk) := by
  intro _
  simp [decode, encode, decodeOpcode6, decodeOpcode7, decodeOpcode8, decodeOpcode10, decodeOpcode12, enc4R_op, enc4R_a, enc4R_k, enc4R_j, enc4R_d, fieldD, fieldJ, fieldK, fieldA, fieldCd, fieldCj, fieldCa, constantBits, flagSlot_number, flagSlot_top]
theorem fmovS (fd fj : FprNo) : Statement (.fmovS fd fj) := by
  intro _
  simp [decode, encode, decodeOpcode6, decodeOpcode7, decodeOpcode8, decodeOpcode10, decodeOpcode12, decodeOpcode17, decodeOpcode22, enc2R_op, enc2R_j, enc2R_d, fieldD, fieldJ]
theorem fmovD (fd fj : FprNo) : Statement (.fmovD fd fj) := by
  intro _
  simp [decode, encode, decodeOpcode6, decodeOpcode7, decodeOpcode8, decodeOpcode10, decodeOpcode12, decodeOpcode17, decodeOpcode22, enc2R_op, enc2R_j, enc2R_d, fieldD, fieldJ]
theorem movgr2frW (fd : FprNo) (rj : RegNo) : Statement (.movgr2frW fd rj) := by
  intro _
  simp [decode, encode, decodeOpcode6, decodeOpcode7, decodeOpcode8, decodeOpcode10, decodeOpcode12, decodeOpcode17, decodeOpcode22, enc2R_op, enc2R_j, enc2R_d, fieldD, fieldJ]
theorem movgr2frhW (fd : FprNo) (rj : RegNo) : Statement (.movgr2frhW fd rj) := by
  intro _
  simp [decode, encode, decodeOpcode6, decodeOpcode7, decodeOpcode8, decodeOpcode10, decodeOpcode12, decodeOpcode17, decodeOpcode22, enc2R_op, enc2R_j, enc2R_d, fieldD, fieldJ]
theorem movfr2grS (rd : RegNo) (fj : FprNo) : Statement (.movfr2grS rd fj) := by
  intro _
  simp [decode, encode, decodeOpcode6, decodeOpcode7, decodeOpcode8, decodeOpcode10, decodeOpcode12, decodeOpcode17, decodeOpcode22, enc2R_op, enc2R_j, enc2R_d, fieldD, fieldJ]
theorem movfrh2grS (rd : RegNo) (fj : FprNo) : Statement (.movfrh2grS rd fj) := by
  intro _
  simp [decode, encode, decodeOpcode6, decodeOpcode7, decodeOpcode8, decodeOpcode10, decodeOpcode12, decodeOpcode17, decodeOpcode22, enc2R_op, enc2R_j, enc2R_d, fieldD, fieldJ]
theorem movgr2fcsr (fcsr : BitVec 5) (rj : RegNo) : Statement (.movgr2fcsr fcsr rj) := by
  intro _
  simp [decode, encode, decodeOpcode6, decodeOpcode7, decodeOpcode8, decodeOpcode10, decodeOpcode12, decodeOpcode17, decodeOpcode22, enc2R_op, enc2R_j, enc2R_d, fieldD, fieldJ]
theorem movfcsr2gr (rd : RegNo) (fcsr : BitVec 5) : Statement (.movfcsr2gr rd fcsr) := by
  intro _
  simp [decode, encode, decodeOpcode6, decodeOpcode7, decodeOpcode8, decodeOpcode10, decodeOpcode12, decodeOpcode17, decodeOpcode22, enc2R_op, enc2R_j, enc2R_d, fieldD, fieldJ]
theorem movfr2cf (cd : CfNo) (fj : FprNo) : Statement (.movfr2cf cd fj) := by
  intro _
  simp [decode, encode, decodeOpcode6, decodeOpcode7, decodeOpcode8, decodeOpcode10, decodeOpcode12, decodeOpcode17, decodeOpcode22, enc2R_op, enc2R_j, enc2R_d, fieldD, fieldJ, fieldCd, fieldCj, fieldCa, constantBits, flagSlot_number, flagSlot_top]
theorem movcf2fr (fd : FprNo) (cj : CfNo) : Statement (.movcf2fr fd cj) := by
  intro _
  simp [decode, encode, decodeOpcode6, decodeOpcode7, decodeOpcode8, decodeOpcode10, decodeOpcode12, decodeOpcode17, decodeOpcode22, enc2R_op, enc2R_j, enc2R_d, fieldD, fieldJ, fieldCd, fieldCj, fieldCa, constantBits, flagSlot_number, flagSlot_top]
theorem movgr2cf (cd : CfNo) (rj : RegNo) : Statement (.movgr2cf cd rj) := by
  intro _
  simp [decode, encode, decodeOpcode6, decodeOpcode7, decodeOpcode8, decodeOpcode10, decodeOpcode12, decodeOpcode17, decodeOpcode22, enc2R_op, enc2R_j, enc2R_d, fieldD, fieldJ, fieldCd, fieldCj, fieldCa, constantBits, flagSlot_number, flagSlot_top]
theorem movcf2gr (rd : RegNo) (cj : CfNo) : Statement (.movcf2gr rd cj) := by
  intro _
  simp [decode, encode, decodeOpcode6, decodeOpcode7, decodeOpcode8, decodeOpcode10, decodeOpcode12, decodeOpcode17, decodeOpcode22, enc2R_op, enc2R_j, enc2R_d, fieldD, fieldJ, fieldCd, fieldCj, fieldCa, constantBits, flagSlot_number, flagSlot_top]
theorem fsel (fd fj fk : FprNo) (ca : CfNo) : Statement (.fsel fd fj fk ca) := by
  intro _
  simp [decode, encode, decodeOpcode6, decodeOpcode7, decodeOpcode8, decodeOpcode10, decodeOpcode12, enc4R_op, enc4R_a, enc4R_k, enc4R_j, enc4R_d, fieldD, fieldJ, fieldK, fieldA, fieldCd, fieldCj, fieldCa, constantBits, flagSlot_number, flagSlot_top]
theorem fldS (fd : FprNo) (rj : RegNo) (si12 : BitVec 12) : Statement (.fldS fd rj si12) := by
  intro _
  simp [decode, encode, decodeOpcode6, decodeOpcode7, decodeOpcode8, decodeOpcode10, enc2RI12_op, enc2RI12_i, enc2RI12_j, enc2RI12_d, fieldD, fieldJ, fieldI12]
theorem fstS (fd : FprNo) (rj : RegNo) (si12 : BitVec 12) : Statement (.fstS fd rj si12) := by
  intro _
  simp [decode, encode, decodeOpcode6, decodeOpcode7, decodeOpcode8, decodeOpcode10, enc2RI12_op, enc2RI12_i, enc2RI12_j, enc2RI12_d, fieldD, fieldJ, fieldI12]
theorem fldD (fd : FprNo) (rj : RegNo) (si12 : BitVec 12) : Statement (.fldD fd rj si12) := by
  intro _
  simp [decode, encode, decodeOpcode6, decodeOpcode7, decodeOpcode8, decodeOpcode10, enc2RI12_op, enc2RI12_i, enc2RI12_j, enc2RI12_d, fieldD, fieldJ, fieldI12]
theorem fstD (fd : FprNo) (rj : RegNo) (si12 : BitVec 12) : Statement (.fstD fd rj si12) := by
  intro _
  simp [decode, encode, decodeOpcode6, decodeOpcode7, decodeOpcode8, decodeOpcode10, enc2RI12_op, enc2RI12_i, enc2RI12_j, enc2RI12_d, fieldD, fieldJ, fieldI12]
theorem bceqz (cj : CfNo) (offs21 : BitVec 21) : Statement (.bceqz cj offs21) := by
  intro _
  simp [decode, encode, decodeOpcode6, enc2RI16_op, enc2RI16_i, enc2RI16_j, enc2RI16_d, fieldD, fieldJ, fieldOffs16, fieldCd, fieldCj, fieldCa, constantBits, flagSlot_number, flagSlot_top, fieldOffs21, offs21_parts]
theorem bcnez (cj : CfNo) (offs21 : BitVec 21) : Statement (.bcnez cj offs21) := by
  intro _
  simp [decode, encode, decodeOpcode6, enc2RI16_op, enc2RI16_i, enc2RI16_j, enc2RI16_d, fieldD, fieldJ, fieldOffs16, fieldCd, fieldCj, fieldCa, constantBits, flagSlot_number, flagSlot_top, fieldOffs21, offs21_parts]

end Sys2Proof.Laws.DecodeEncode
end

