-- ==== Sys2Proof/Laws/Rows.lean ====
section
/-! SUPPORT. A word split into the slots of its format, and the rows of the opcode table from the words of the encoder. -/

namespace Sys2Proof.Machine

/-- The bits under the ones of a mask. -/
theorem extract_of_mask {w mask m : Word} (start len : Nat) (hm : mask.extractLsb' start len = BitVec.allOnes len)
    (h : w &&& mask = m) : w.extractLsb' start len = m.extractLsb' start len := by
  rw [← h, BitVec.extractLsb'_and, hm, BitVec.and_allOnes]

theorem enc2R_split (w : Word) : w = enc2R (w.extractLsb' 10 22) (w.extractLsb' 5 5) (w.extractLsb' 0 5) := by
  refine BitVec.eq_of_getLsbD_eq fun i hi => ?_
  simp only [enc2R, BitVec.getLsbD_append, BitVec.getLsbD_extractLsb']
  split
  · simp [*]
  · split
    · simp [show i - 5 < 5 by omega, show 5 + (i - 5) = i by omega]
    · simp [show i - 5 - 5 < 22 by omega, show 10 + (i - 5 - 5) = i by omega]

theorem enc3R_split (w : Word) : w = enc3R (w.extractLsb' 15 17) (w.extractLsb' 10 5) (w.extractLsb' 5 5) (w.extractLsb' 0 5) := by
  refine BitVec.eq_of_getLsbD_eq fun i hi => ?_
  simp only [enc3R, BitVec.getLsbD_append, BitVec.getLsbD_extractLsb']
  split
  · simp [*]
  · split
    · simp [show i - 5 < 5 by omega, show 5 + (i - 5) = i by omega]
    · split
      · simp [show i - 5 - 5 < 5 by omega, show 10 + (i - 5 - 5) = i by omega]
      · simp [show i - 5 - 5 - 5 < 17 by omega, show 15 + (i - 5 - 5 - 5) = i by omega]

theorem enc4R_split (w : Word) : w = enc4R (w.extractLsb' 20 12) (w.extractLsb' 15 5) (w.extractLsb' 10 5) (w.extractLsb' 5 5) (w.extractLsb' 0 5) := by
  refine BitVec.eq_of_getLsbD_eq fun i hi => ?_
  simp only [enc4R, BitVec.getLsbD_append, BitVec.getLsbD_extractLsb']
  split
  · simp [*]
  · split
    · simp [show i - 5 < 5 by omega, show 5 + (i - 5) = i by omega]
    · split
      · simp [show i - 5 - 5 < 5 by omega, show 10 + (i - 5 - 5) = i by omega]
      · split
        · simp [show i - 5 - 5 - 5 < 5 by omega, show 15 + (i - 5 - 5 - 5) = i by omega]
        · simp [show i - 5 - 5 - 5 - 5 < 12 by omega, show 20 + (i - 5 - 5 - 5 - 5) = i by omega]

theorem enc2RI12_split (w : Word) : w = enc2RI12 (w.extractLsb' 22 10) (w.extractLsb' 10 12) (w.extractLsb' 5 5) (w.extractLsb' 0 5) := by
  refine BitVec.eq_of_getLsbD_eq fun i hi => ?_
  simp only [enc2RI12, BitVec.getLsbD_append, BitVec.getLsbD_extractLsb']
  split
  · simp [*]
  · split
    · simp [show i - 5 < 5 by omega, show 5 + (i - 5) = i by omega]
    · split
      · simp [show i - 5 - 5 < 12 by omega, show 10 + (i - 5 - 5) = i by omega]
      · simp [show i - 5 - 5 - 12 < 10 by omega, show 22 + (i - 5 - 5 - 12) = i by omega]

theorem enc2RI14_split (w : Word) : w = enc2RI14 (w.extractLsb' 24 8) (w.extractLsb' 10 14) (w.extractLsb' 5 5) (w.extractLsb' 0 5) := by
  refine BitVec.eq_of_getLsbD_eq fun i hi => ?_
  simp only [enc2RI14, BitVec.getLsbD_append, BitVec.getLsbD_extractLsb']
  split
  · simp [*]
  · split
    · simp [show i - 5 < 5 by omega, show 5 + (i - 5) = i by omega]
    · split
      · simp [show i - 5 - 5 < 14 by omega, show 10 + (i - 5 - 5) = i by omega]
      · simp [show i - 5 - 5 - 14 < 8 by omega, show 24 + (i - 5 - 5 - 14) = i by omega]

theorem enc2RI16_split (w : Word) : w = enc2RI16 (w.extractLsb' 26 6) (w.extractLsb' 10 16) (w.extractLsb' 5 5) (w.extractLsb' 0 5) := by
  refine BitVec.eq_of_getLsbD_eq fun i hi => ?_
  simp only [enc2RI16, BitVec.getLsbD_append, BitVec.getLsbD_extractLsb']
  split
  · simp [*]
  · split
    · simp [show i - 5 < 5 by omega, show 5 + (i - 5) = i by omega]
    · split
      · simp [show i - 5 - 5 < 16 by omega, show 10 + (i - 5 - 5) = i by omega]
      · simp [show i - 5 - 5 - 16 < 6 by omega, show 26 + (i - 5 - 5 - 16) = i by omega]

theorem enc1RI20_split (w : Word) : w = enc1RI20 (w.extractLsb' 25 7) (w.extractLsb' 5 20) (w.extractLsb' 0 5) := by
  refine BitVec.eq_of_getLsbD_eq fun i hi => ?_
  simp only [enc1RI20, BitVec.getLsbD_append, BitVec.getLsbD_extractLsb']
  split
  · simp [*]
  · split
    · simp [show i - 5 < 20 by omega, show 5 + (i - 5) = i by omega]
    · simp [show i - 5 - 20 < 7 by omega, show 25 + (i - 5 - 20) = i by omega]

theorem encCode15_split (w : Word) : w = encCode15 (w.extractLsb' 15 17) (w.extractLsb' 0 15) := by
  refine BitVec.eq_of_getLsbD_eq fun i hi => ?_
  simp only [encCode15, BitVec.getLsbD_append, BitVec.getLsbD_extractLsb']
  split
  · simp [*]
  · simp [show i - 15 < 17 by omega, show 15 + (i - 15) = i by omega]

theorem row3R_of {m : Word} {i : BitVec 5 → BitVec 5 → BitVec 5 → Instr}
    (h : ∀ d j k, decode (enc3R (m.extractLsb' 15 17) k j d) = .ok (i d j k)) : Row3R m i := fun w hw =>
  ((congrArg decode (enc3R_split w)).trans (by rw [extract_of_mask 15 17 (by decide) hw])).trans (h _ _ _)

theorem row2R_of {m : Word} {i : BitVec 5 → BitVec 5 → Instr}
    (h : ∀ d j, decode (enc2R (m.extractLsb' 10 22) j d) = .ok (i d j)) : Row2R m i := fun w hw =>
  ((congrArg decode (enc2R_split w)).trans (by rw [extract_of_mask 10 22 (by decide) hw])).trans (h _ _)

theorem row4R_of {m : Word} {i : BitVec 5 → BitVec 5 → BitVec 5 → BitVec 5 → Instr}
    (h : ∀ d j k a, decode (enc4R (m.extractLsb' 20 12) a k j d) = .ok (i d j k a)) : Row4R m i := fun w hw =>
  ((congrArg decode (enc4R_split w)).trans (by rw [extract_of_mask 20 12 (by decide) hw])).trans (h _ _ _ _)

theorem row2RI12_of {m : Word} {i : BitVec 5 → BitVec 5 → BitVec 12 → Instr}
    (h : ∀ d j i12, decode (enc2RI12 (m.extractLsb' 22 10) i12 j d) = .ok (i d j i12)) : Row2RI12 m i := fun w hw =>
  ((congrArg decode (enc2RI12_split w)).trans (by rw [extract_of_mask 22 10 (by decide) hw])).trans (h _ _ _)

theorem row2RI14_of {m : Word} {i : BitVec 5 → BitVec 5 → BitVec 14 → Instr}
    (h : ∀ d j i14, decode (enc2RI14 (m.extractLsb' 24 8) i14 j d) = .ok (i d j i14)) : Row2RI14 m i := fun w hw =>
  ((congrArg decode (enc2RI14_split w)).trans (by rw [extract_of_mask 24 8 (by decide) hw])).trans (h _ _ _)

theorem row2RI16_of {m : Word} {i : BitVec 5 → BitVec 5 → BitVec 16 → Instr}
    (h : ∀ d j i16, decode (enc2RI16 (m.extractLsb' 26 6) i16 j d) = .ok (i d j i16)) : Row2RI16 m i := fun w hw =>
  ((congrArg decode (enc2RI16_split w)).trans (by rw [extract_of_mask 26 6 (by decide) hw])).trans (h _ _ _)

theorem row1RI20_of {m : Word} {i : BitVec 5 → BitVec 20 → Instr}
    (h : ∀ d i20, decode (enc1RI20 (m.extractLsb' 25 7) i20 d) = .ok (i d i20)) : Row1RI20 m i := fun w hw =>
  ((congrArg decode (enc1RI20_split w)).trans (by rw [extract_of_mask 25 7 (by decide) hw])).trans (h _ _)

theorem rowCode15_of {m : Word} {i : BitVec 15 → Instr}
    (h : ∀ code, decode (encCode15 (m.extractLsb' 15 17) code) = .ok (i code)) : RowCode15 m i := fun w hw =>
  ((congrArg decode (encCode15_split w)).trans (by rw [extract_of_mask 15 17 (by decide) hw])).trans (h _)

end Sys2Proof.Machine
end

