-- ==== Sys2Proof/Laws/Shapes.lean ====
section
/-! SUPPORT. What each shared shape of an instruction can answer, said once: the provers cite these and unfold no shape. -/

namespace Sys2Proof.Machine

/-! ### Reads of several bytes -/

theorem memRead_lt (n : Nat) (a : Word) (s : State) : memRead n a s < 256 ^ n := by
  induction n generalizing a with
  | zero => simp [memRead]
  | succ n ih =>
    have h1 := ih (a + 1)
    have h2 := (byteAt a s).isLt
    rw [memRead, Nat.pow_succ]
    omega

/-- Byte `i` of `MemRead(a, n)` is the byte at `a + i` (20_memory.md R62). -/
theorem memRead_byte (n i : Nat) (hi : i < n) (a : Word) (s : State) :
    memRead n a s / 256 ^ i % 256 = (byteAt (a + BitVec.ofNat 32 i) s).toNat := by
  induction n generalizing a i with
  | zero => omega
  | succ n ih =>
    have h2 := (byteAt a s).isLt
    cases i with
    | zero => simp only [memRead, Nat.pow_zero, Nat.div_one, BitVec.ofNat_eq_ofNat, BitVec.add_zero]; omega
    | succ i =>
      have hdiv : ((byteAt a s).toNat + 256 * memRead n (a + 1) s) / 256 = memRead n (a + 1) s := by omega
      have ha : a + 1 + BitVec.ofNat 32 i = a + BitVec.ofNat 32 (i + 1) := by bv_omega
      rw [memRead, Nat.pow_succ, Nat.mul_comm (256 ^ i), ← Nat.div_div_eq_div_mul, hdiv, ih i (by omega), ha]

/-! ### Accesses (20_memory.md R80) -/

/-- A guarded access answers ALE, the refusal, or what the access answers; which one depends on the address alone. -/
theorem guardAccess_cases (n : Nat) (vaddr : Word) (s : State) (o : Out) :
    (vaddr.toNat % n ≠ 0 ∧ guardAccess n vaddr s o = .fault (.ale vaddr s)) ∨
    (vaddr.toNat % n = 0 ∧ mappedRange n vaddr s = false ∧ guardAccess n vaddr s o = .refused (.unmapped vaddr)) ∨
    (vaddr.toNat % n = 0 ∧ mappedRange n vaddr s = true ∧ guardAccess n vaddr s o = o) := by
  unfold guardAccess raise
  by_cases h : vaddr.toNat % n = 0
  · by_cases hm : mappedRange n vaddr s = true
    · exact .inr (.inr ⟨h, hm, by rw [if_neg (not_not.2 h), if_pos hm]⟩)
    · exact .inr (.inl ⟨h, by simpa using hm, by rw [if_neg (not_not.2 h), if_neg hm]⟩)
  · exact .inl ⟨h, by rw [if_pos h]⟩

theorem guardAccess_ok {n : Nat} {vaddr : Word} {s : State} (ha : vaddr.toNat % n = 0)
    (hm : mappedRange n vaddr s = true) (o : Out) : guardAccess n vaddr s o = o := by
  rw [guardAccess, if_neg (not_not.2 ha), if_pos hm]

theorem guardAccess_misaligned {n : Nat} {vaddr : Word} (s : State) (ha : vaddr.toNat % n ≠ 0) (o : Out) :
    guardAccess n vaddr s o = .fault (.ale vaddr s) := by
  rw [guardAccess, if_pos ha, raise]

theorem guardAccess_unmapped {n : Nat} {vaddr : Word} {s : State} (ha : vaddr.toNat % n = 0)
    (hm : mappedRange n vaddr s = false) (o : Out) : guardAccess n vaddr s o = .refused (.unmapped vaddr) := by
  rw [guardAccess, if_neg (not_not.2 ha), if_neg (by simp [hm])]

/-- If a guarded access answers a next state, the access was made. -/
theorem guardAccess_next {n : Nat} {vaddr : Word} {s t : State} {o : Out} (h : guardAccess n vaddr s o = .next t) :
    vaddr.toNat % n = 0 ∧ mappedRange n vaddr s = true ∧ o = .next t := by
  rcases guardAccess_cases n vaddr s o with ⟨_, h'⟩ | ⟨_, _, h'⟩ | ⟨ha, hm, h'⟩
  · rw [h'] at h; cases h
  · rw [h'] at h; cases h
  · exact ⟨ha, hm, h' ▸ h⟩

theorem bytesStored_memWrite (n : Nat) (hn : n ≤ 8) (a : Word) (v : DWord) (s : State) :
    BytesStored n a v s (memWrite n a v.toNat s) := by
  refine ⟨fun i hi => ?_, fun b hb => ?_, fun b => mem_markDirty n (by omega) a s.dirty b⟩
  · have hsub : (a + BitVec.ofNat 32 i - a).toNat = i := by bv_omega
    rw [byteAt, memWrite_mem, readByte_write n (by omega), hsub, if_pos hi]
    apply BitVec.eq_of_toNat_eq
    rw [BitVec.toNat_ofNat, BitVec.extractLsb'_toNat, Nat.shiftRight_eq_div_pow, Nat.pow_mul]
  · rw [byteAt, memWrite_mem, readByte_write n (by omega), byteAt]
    exact if_neg hb

/-! ### Branches -/

theorem branchIf_eq (taken : Bool) (offset : Word) (s : State) :
    branchIf taken offset s = .next { s with pc := if taken then s.pc + offset else s.pc + 4 } := by
  cases taken <;> rfl

/-! ### The end of a floating-point operation (47_fp_arith.md R233) -/

theorem fpFinish_trap {exc : FpExc} {s : State} (h : exc &&& enables s ≠ 0) (write : State → State) :
    fpFinish exc write s = .fault (.fpe exc (setCause exc s)) := by rw [fpFinish, if_pos h, raise]

theorem fpFinish_next {exc : FpExc} {s : State} (h : exc &&& enables s = 0) (write : State → State) :
    fpFinish exc write s = .next (advance (write (accumulateFlags exc (setCause exc s)))) := by
  rw [fpFinish, if_neg (not_not.2 h)]

theorem causeMask_bit : ∀ i < 32, (0xE0FFFFFF#32).getLsbD i = !decide (24 ≤ i ∧ i < 29) := by decide
theorem reservedMask_bit : ∀ i < 32, (~~~fcsrWritable).getLsbD i = !decide (i < 5 ∨ (8 ≤ i ∧ i < 10) ∨ (16 ≤ i ∧ i < 21) ∨
    (24 ≤ i ∧ i < 29)) := by decide

/-- The bits of fcsr0 after `Cause <- E`. -/
theorem setCause_bit (exc : FpExc) (s : State) (i : Nat) (hi : i < 32) :
    (setCause exc s).fcsr0.getLsbD i = if 24 ≤ i ∧ i < 29 then exc.getLsbD (i - 24) else s.fcsr0.getLsbD i := by
  rw [setCause_fcsr0, BitVec.getLsbD_or, BitVec.getLsbD_and, causeMask_bit i hi, BitVec.getLsbD_shiftLeft,
    BitVec.getLsbD_setWidth]
  by_cases h : 24 ≤ i ∧ i < 29
  · simp [h, hi, show i - 24 < 32 by omega]
  · rcases Nat.lt_or_ge i 24 with h' | h'
    · simp [h, hi, h']
    · have : exc.getLsbD (i - 24) = false := BitVec.getLsbD_of_ge _ _ (by omega)
      simp [h, this]

/-- The bits of fcsr0 after `Flags <- Flags | E`. -/
theorem accumulateFlags_bit (exc : FpExc) (s : State) (i : Nat) (hi : i < 32) :
    (accumulateFlags exc s).fcsr0.getLsbD i =
      (s.fcsr0.getLsbD i || (decide (16 ≤ i ∧ i < 21) && exc.getLsbD (i - 16))) := by
  rw [accumulateFlags_fcsr0, BitVec.getLsbD_or, BitVec.getLsbD_shiftLeft, BitVec.getLsbD_setWidth]
  by_cases h : 16 ≤ i ∧ i < 21
  · simp [h, hi, show i - 16 < 32 by omega, show ¬ i < 16 by omega]
  · rcases Nat.lt_or_ge i 16 with h' | h'
    · simp [h, hi, h']
    · have : exc.getLsbD (i - 16) = false := BitVec.getLsbD_of_ge _ _ (by omega)
      simp [this]

/-- A field of fcsr0 bit by bit. -/
theorem field_bit (w : Word) (start len i : Nat) (hi : i < len) :
    (w.extractLsb' start len)[i] = w.getLsbD (start + i) := BitVec.getElem_extractLsb' hi

/-- The fields of fcsr0 after `Cause <- E`. -/
theorem fpTrapped_setCause (exc : FpExc) (s : State) : FpTrapped exc s (setCause exc s) := by
  refine ⟨?_, ?_, ?_, ?_, ?_, rfl⟩
  · ext i hi
    rw [causeField, field_bit _ _ _ _ hi, setCause_bit _ _ _ (by omega), if_pos (by omega), Nat.add_sub_cancel_left,
      BitVec.getLsbD_eq_getElem hi]
  · ext i hi
    rw [flagsField, flagsField, field_bit _ _ _ _ hi, field_bit _ _ _ _ hi, setCause_bit _ _ _ (by omega),
      if_neg (by omega)]
  · ext i hi
    rw [enables, enables, field_bit _ _ _ _ hi, field_bit _ _ _ _ hi, setCause_bit _ _ _ (by omega), if_neg (by omega)]
  · ext i hi
    rw [roundingBits, roundingBits, field_bit _ _ _ _ hi, field_bit _ _ _ _ hi, setCause_bit _ _ _ (by omega),
      if_neg (by omega)]
  · ext i hi
    rw [← BitVec.getLsbD_eq_getElem hi, ← BitVec.getLsbD_eq_getElem hi, BitVec.getLsbD_and, BitVec.getLsbD_and,
      setCause_bit _ _ _ hi, reservedMask_bit i hi]
    by_cases h : 24 ≤ i ∧ i < 29 <;> simp [h]

/-- The fields of fcsr0 after `Cause <- E` and `Flags <- Flags | E`. -/
theorem fcsrAfter_accumulate (exc : FpExc) (s : State) : FcsrAfter exc s (accumulateFlags exc (setCause exc s)) := by
  obtain ⟨h1, h2, h3, h4, h5, -⟩ := fpTrapped_setCause exc s
  have keep : ∀ start len, start + len ≤ 16 ∨ 21 ≤ start → start + len ≤ 32 →
      (accumulateFlags exc (setCause exc s)).fcsr0.extractLsb' start len = (setCause exc s).fcsr0.extractLsb' start len := by
    intro start len h h'
    ext i hi
    rw [field_bit _ _ _ _ hi, field_bit _ _ _ _ hi, accumulateFlags_bit _ _ _ (by omega)]
    have : ¬ (16 ≤ start + i ∧ start + i < 21) := by omega
    simp [this]
  refine ⟨(keep 24 5 (by omega) (by omega)).trans h1, ?_, (keep 0 5 (by omega) (by omega)).trans h3,
    (keep 8 2 (by omega) (by omega)).trans h4, Eq.trans ?_ h5⟩
  · ext i hi
    rw [← h2, flagsField, field_bit _ _ _ _ hi, accumulateFlags_bit _ _ _ (by omega), BitVec.getElem_or, flagsField,
      field_bit _ _ _ _ hi, Nat.add_sub_cancel_left, BitVec.getLsbD_eq_getElem hi]
    simp [show 16 + i < 21 by omega]
  · ext i hi
    rw [← BitVec.getLsbD_eq_getElem hi, ← BitVec.getLsbD_eq_getElem hi, BitVec.getLsbD_and, BitVec.getLsbD_and,
      accumulateFlags_bit _ _ _ hi, reservedMask_bit i hi]
    by_cases h : 16 ≤ i ∧ i < 21 <;> simp [h]

theorem fcsrAfter_congr {exc : FpExc} {s t u : State} (h : u.fcsr0 = t.fcsr0) (ht : FcsrAfter exc s t) :
    FcsrAfter exc s u := by
  simpa [FcsrAfter, causeField, flagsField, enables, roundingBits, h] using ht

/-! ### Another rounding mode -/

/-- The bits of a result do not depend on RM where the operation does not read it. -/
theorem value_roundingUnread {op : FpOp} {fmt : FpFormat} (h : opReadsRounding op fmt = false) (o : FpOut) (rm rm' : BitVec 2)
    (a b c : DWord) : o.value op fmt rm a b c = o.value op fmt rm' a b c := by
  simp [FpOut.value, roundingSeen, h]

@[simp] theorem enables_withRounding (rm : BitVec 2) (s : State) : enables (withRounding rm s) = enables s := by
  ext i hi
  rw [enables, enables, field_bit _ _ _ _ hi, field_bit _ _ _ _ hi]
  interval_cases i <;> simp [withRounding]

theorem setCause_withRounding (rm : BitVec 2) (exc : FpExc) (s : State) :
    setCause exc (withRounding rm s) = withRounding rm (setCause exc s) := by
  simp only [setCause, withRounding]; congr 1
  ext i hi; interval_cases i <;> simp

theorem accumulateFlags_withRounding (rm : BitVec 2) (exc : FpExc) (s : State) :
    accumulateFlags exc (withRounding rm s) = withRounding rm (accumulateFlags exc s) := by
  simp only [accumulateFlags, withRounding]; congr 1
  ext i hi; interval_cases i <;> simp

/-- R233 ends alike in another rounding mode, if the destination is written alike. -/
theorem fpFinish_withRounding (rm : BitVec 2) (exc : FpExc) {write : State → State}
    (h : ∀ s, write (withRounding rm s) = withRounding rm (write s)) (s : State) :
    fpFinish exc write (withRounding rm s) = onState (withRounding rm) (fpFinish exc write s) := by
  unfold fpFinish
  rw [enables_withRounding, setCause_withRounding, accumulateFlags_withRounding, h]
  split <;> rfl

/-! ### Privilege -/

theorem privilegedOnly_plv3 {s : State} (h : s.plv = .plv3) (i : Instr) :
    privilegedOnly i s = .fault (.ipe (encode i) s) := by simp [privilegedOnly, h, raise]

theorem privilegedOnly_plv0 {s : State} (h : s.plv = .plv0) (i : Instr) :
    privilegedOnly i s = .refused (.noSemantics (encode i)) := by simp [privilegedOnly, h]

/-! ### Completed instructions: what each shape of a meaning leaves -/

/-- A meaning that ends in `gprResult` writes that register and nothing else. -/
theorem writesGpr_of {i : Instr} {s : State} {rd : RegNo} {v w : Word} (h : exec i s = gprResult rd w s) (hv : w = v) :
    WritesGpr i s rd v :=
  ⟨_, h, fun r => hv ▸ (readGpr_congr (by simp) r).trans (readGpr_writeGpr rd w s r), by simp, fun r => readFpr_congr (by simp) r,
    fun c => readFcc_congr (by simp) c, by simp, by simp, ⟨fun a => byteAt_congr (by simp) a, by simp⟩, by simp, by simp⟩

/-- A meaning that ends in `gprDraw` writes some value to that register and nothing else. -/
theorem writesGpr_draw {i : Instr} {s : State} {rd : RegNo} (h : exec i s = gprDraw rd s) : ∃ v, WritesGpr i s rd v :=
  ⟨draw s, _, h, fun r => (readGpr_congr (by simp) r).trans (readGpr_writeGpr rd _ s r), by simp,
    fun r => readFpr_congr (by simp) r, fun c => readFcc_congr (by simp) c, by simp, by simp,
    ⟨fun a => byteAt_congr (by simp) a, by simp⟩, by simp, by simp⟩

/-- A meaning that only sets the pc. -/
theorem jumpsTo_of {i : Instr} {s : State} {t : Word} (h : exec i s = .next { s with pc := t }) : JumpsTo i s t :=
  ⟨_, h, rfl, fun _ => rfl, fun _ => rfl, fun _ => rfl, rfl, rfl, ⟨fun _ => rfl, rfl⟩, rfl, rfl⟩

/-- A meaning that ends by writing all of a floating-point register. -/
theorem writesFpr_of {i : Instr} {s : State} {fd : FprNo} {v w : DWord} (h : exec i s = .next (advance (writeFpr fd w s)))
    (hv : w = v) : WritesFpr i s fd v :=
  ⟨_, h, fun r => hv ▸ (readFpr_congr (by simp) r).trans (readFpr_writeFpr fd w s r), by simp, fun r => readGpr_congr (by simp) r,
    fun c => readFcc_congr (by simp) c, by simp, by simp, ⟨fun a => byteAt_congr (by simp) a, by simp⟩, by simp, by simp⟩

/-- A meaning that ends by writing the low half of a floating-point register. -/
theorem writesFprLow_of {i : Instr} {s : State} {fd : FprNo} {v w : Word}
    (h : exec i s = .next (advance (writeFprLow fd w s))) (hv : w = v) : WritesFprLow i s fd v :=
  ⟨_, h, hv ▸ ⟨by rw [readFpr_congr (s := writeFprLow fd w s) (by simp)]; exact (fprLowWritten_writeFprLow fd w s).1,
      fun r hr => (readFpr_congr (by simp) r).trans ((fprLowWritten_writeFprLow fd w s).2 r hr)⟩, by simp,
    fun r => readGpr_congr (by simp) r, fun c => readFcc_congr (by simp) c, by simp, by simp,
    ⟨fun a => byteAt_congr (by simp) a, by simp⟩, by simp, by simp⟩

/-- A meaning that ends by writing a condition flag. -/
theorem writesFcc_of {i : Instr} {s : State} {cd : CfNo} {b c : Bool} (h : exec i s = .next (advance (writeFcc cd c s)))
    (hv : c = b) : WritesFcc i s cd b :=
  ⟨_, h, fun r => hv ▸ (readFcc_congr (by simp) r).trans (readFcc_writeFcc cd c s r), by simp, fun r => readGpr_congr (by simp) r,
    fun r => readFpr_congr (by simp) r, by simp, by simp, ⟨fun a => byteAt_congr (by simp) a, by simp⟩, by simp, by simp⟩

/-- A guarded access ends as R80 says. -/
theorem accessEnds_of {i : Instr} {s : State} {n : Nat} {vaddr : Word} {o : Out} {done : Prop}
    (h : exec i s = guardAccess n vaddr s o) (hd : exec i s = o → done) : AccessEnds i s n vaddr done := by
  refine ⟨fun ha => h.trans (guardAccess_misaligned s ha o), fun ha hm => h.trans (guardAccess_unmapped ha ?_ o),
    fun ha hm => hd (h.trans (guardAccess_ok ha ((mappedRange_offsets n vaddr s).2 hm) o))⟩
  obtain ⟨k, hk, hf⟩ := hm
  cases hr : mappedRange n vaddr s with
  | false => rfl
  | true => rw [(mappedRange_offsets n vaddr s).1 hr k hk] at hf; exact hf

/-- The procedure of R233 ends as R233 says, for a destination that touches nothing else. -/
theorem endsByR233_of {i : Instr} {s : State} {exc : FpExc} {write : State → State} {written : State → State → Prop}
    (h : exec i s = fpFinish exc write s)
    (hw : ∀ u, u = accumulateFlags exc (setCause exc s) → written s (advance (write u)) ∧ (write u).fcsr0 = u.fcsr0 ∧
      (write u).pc = u.pc ∧ (write u).x = u.x ∧ (write u).llbit = u.llbit ∧ (write u).mem = u.mem ∧
      (write u).dirty = u.dirty ∧ (write u).plv = u.plv ∧ (write u).memMap = u.memMap) :
    EndsByR233 i s exc written := by
  refine ⟨fun he => ⟨_, h.trans (fpFinish_trap he write), fpTrapped_setCause exc s⟩,
    fun he => ⟨_, h.trans (fpFinish_next he write), ?_⟩⟩
  obtain ⟨h0, h1, h2, h3, h4, h5, h6, h7, h8⟩ := hw _ rfl
  exact ⟨fcsrAfter_congr (by simpa using h1) (fcsrAfter_accumulate exc s), h0, by simpa using h2,
    fun r => readGpr_congr (by simpa using h3) r, by simpa using h4,
    ⟨fun a => byteAt_congr (by simpa using h5) a, by simpa using h6⟩, by simpa using h7, by simpa using h8⟩

end Sys2Proof.Machine
end

