-- ==== Sys2Proof/Tests/Slice0.lean ====
section
/-! SUPPORT. Tests: WellFormed, decoding, and one step of each instruction. The words and the expected results are those of
the spec's rules (their examples) and of 95_test_vectors.md sections 2.1 to 2.11. -/

namespace Sys2Proof.Tests

open Sys2Proof.Machine

set_option Elab.async false

/-! ### WellFormed: each check refuses an ill-formed instruction -/

theorem test_wellFormed_csrxchg_0 : (Instr.csrxchg 4 0 0).wellFormed = false := by decide
theorem test_wellFormed_csrxchg_1 : (Instr.csrxchg 4 1 0).wellFormed = false := by decide
theorem test_wellFormed_csrxchg_5 : (Instr.csrxchg 4 5 0).wellFormed = true := by decide
theorem test_wellFormed_rdcntvl_w_0 : (Instr.rdcntvlW 0).wellFormed = false := by decide
theorem test_wellFormed_rdcntvl_w_4 : (Instr.rdcntvlW 4).wellFormed = true := by decide
theorem test_wellFormed_andi_nop : (Instr.andi 0 0 0).wellFormed = false := by decide
theorem test_wellFormed_andi : (Instr.andi 0 0 1).wellFormed = true := by decide

/-! ### Decoding: the example word of every rule -/

theorem test_decode_int_arith : List.map decode
    [0x00100823, 0x00110823, 0x00120823, 0x00128823, 0x00140823, 0x00148823, 0x00150823, 0x00158823, 0x023FFC23,
    0x027FFC23, 0x02BFFCA4, 0x0343FC23, 0x0399E0A5, 0x03FFFC23, 0x142468A5, 0x1C000026, 0x03400000] =
    List.map DecodeResult.ok
    [.addW 3 1 2, .subW 3 1 2, .slt 3 1 2, .sltu 3 1 2, .nor 3 1 2, .and 3 1 2, .or 3 1 2, .xor 3 1 2, .slti 3 1
    4095, .sltui 3 1 4095, .addiW 4 5 4095, .andi 3 1 255, .ori 5 5 1656, .xori 3 1 4095, .lu12iW 5 74565,
    .pcaddu12i 6 1, .nop] := by decide

theorem test_decode_muldiv : List.map decode
    [0x001C0823, 0x001C8823, 0x001D0823, 0x00200823, 0x00208823, 0x00210823, 0x00218823] =
    List.map DecodeResult.ok
    [.mulW 3 1 2, .mulhW 3 1 2, .mulhWu 3 1 2, .divW 3 1 2, .modW 3 1 2, .divWu 3 1 2, .modWu 3 1 2] := by decide

theorem test_decode_shift : List.map decode
    [0x00170823, 0x00178823, 0x00180823, 0x00409023, 0x00449023, 0x00489023] =
    List.map DecodeResult.ok
    [.sllW 3 1 2, .srlW 3 1 2, .sraW 3 1 2, .slliW 3 1 4, .srliW 3 1 4, .sraiW 3 1 4] := by decide

theorem test_decode_branch : List.map decode
    [0x4C000020, 0x50004000, 0x54040000, 0x58001022, 0x5FFFF822, 0x60001022, 0x64001022, 0x68001022, 0x6C001022] =
    List.map DecodeResult.ok
    [.jirl 0 1 0, .b 16, .bl 256, .beq 1 2 4, .bne 1 2 65534, .blt 1 2 4, .bge 1 2 4, .bltu 1 2 4, .bgeu 1 2 4] := by decide

theorem test_decode_load_store : List.map decode
    [0x28002083, 0x28402083, 0x28802083, 0x29002083, 0x29402083, 0x29802083, 0x2A002083, 0x2A402083, 0x2AC10080] =
    List.map DecodeResult.ok
    [.ldB 3 4 8, .ldH 3 4 8, .ldW 3 4 8, .stB 3 4 8, .stH 3 4 8, .stW 3 4 8, .ldBu 3 4 8, .ldHu 3 4 8, .preld 0
    4 64] := by decide

theorem test_decode_atomic : List.map decode
    [0x20000883, 0x21000083, 0x38720000, 0x38728000] =
    List.map DecodeResult.ok
    [.llW 3 4 2, .scW 3 4 0, .dbar 0, .ibar 0] := by decide

theorem test_decode_system : List.map decode
    [0x000060C0, 0x00006004, 0x00006405, 0x002A0005, 0x002B0011, 0x04000004, 0x04001824, 0x040000A4, 0x06000080,
    0x06482800, 0x06482C00, 0x06483000, 0x06483400, 0x06483800, 0x06488000, 0x06498000] =
    List.map DecodeResult.ok
    [.rdcntid 6, .rdcntvlW 4, .rdcntvhW 5, .brk 5, .syscall 17, .csrrd 4 0, .csrwr 4 6, .csrxchg 4 5 0, .cacop 0
    4 0, .tlbsrch, .tlbrd, .tlbwr, .tlbfill, .ertn, .idle 0, .invtlb 0 0 0] := by decide

theorem test_decode_fp_arith_1 : List.map decode
    [0x01008C41, 0x01010C41, 0x01028C41, 0x01030C41, 0x01048C41, 0x01050C41, 0x01068C41, 0x01070C41, 0x01088C41,
    0x01090C41, 0x010A8C41, 0x010B0C41, 0x010C8C41, 0x010D0C41, 0x010E8C41, 0x010F0C41, 0x01128C41, 0x01130C41,
    0x01140441, 0x01140841, 0x01141441, 0x01141841, 0x01143441, 0x01143841] =
    List.map DecodeResult.ok
    [.faddS 1 2 3, .faddD 1 2 3, .fsubS 1 2 3, .fsubD 1 2 3, .fmulS 1 2 3, .fmulD 1 2 3, .fdivS 1 2 3, .fdivD 1
    2 3, .fmaxS 1 2 3, .fmaxD 1 2 3, .fminS 1 2 3, .fminD 1 2 3, .fmaxaS 1 2 3, .fmaxaD 1 2 3, .fminaS 1 2 3,
    .fminaD 1 2 3, .fcopysignS 1 2 3, .fcopysignD 1 2 3, .fabsS 1 2, .fabsD 1 2, .fnegS 1 2, .fnegD 1 2,
    .fclassS 1 2, .fclassD 1 2] := by decide

theorem test_decode_fp_arith_2 : List.map decode
    [0x01144441, 0x01144841, 0x01145441, 0x01145841, 0x01146441, 0x01146841, 0x08120C41, 0x08220C41, 0x08520C41,
    0x08620C41, 0x08920C41, 0x08A20C41, 0x08D20C41, 0x08E20C41] =
    List.map DecodeResult.ok
    [.fsqrtS 1 2, .fsqrtD 1 2, .frecipS 1 2, .frecipD 1 2, .frsqrtS 1 2, .frsqrtD 1 2, .fmaddS 1 2 3 4, .fmaddD
    1 2 3 4, .fmsubS 1 2 3 4, .fmsubD 1 2 3 4, .fnmaddS 1 2 3 4, .fnmaddD 1 2 3 4, .fnmsubS 1 2 3 4, .fnmsubD 1
    2 3 4] := by decide

theorem test_decode_fp_compare : List.map decode
    [0x01191841, 0x01192441, 0x011A0441, 0x011A0841, 0x011A4441, 0x011A4841, 0x011A8441, 0x011A8841, 0x011AC441,
    0x011AC841, 0x011B0441, 0x011B0841, 0x011D1041, 0x011D2041, 0x0C120820, 0x0C218C41] =
    List.map DecodeResult.ok
    [.fcvtSD 1 2, .fcvtDS 1 2, .ftintrmWS 1 2, .ftintrmWD 1 2, .ftintrpWS 1 2, .ftintrpWD 1 2, .ftintrzWS 1 2,
    .ftintrzWD 1 2, .ftintrneWS 1 2, .ftintrneWD 1 2, .ftintWS 1 2, .ftintWD 1 2, .ffintSW 1 2, .ffintDW 1 2,
    .fcmpS 4 0 1 2, .fcmpD 3 1 2 3] := by decide

theorem test_decode_fp_move : List.map decode
    [0x01149441, 0x01149841, 0x0114A481, 0x0114ACA1, 0x0114B423, 0x0114BC23, 0x0114C080, 0x0114C803, 0x0114D022,
    0x0114D441, 0x0114D882, 0x0114DC43, 0x0D020C41, 0x2B002081, 0x2B402081, 0x2B802081, 0x2BFFE081, 0x48001020,
    0x48001120] =
    List.map DecodeResult.ok
    [.fmovS 1 2, .fmovD 1 2, .movgr2frW 1 4, .movgr2frhW 1 5, .movfr2grS 3 1, .movfrh2grS 3 1, .movgr2fcsr 0 4,
    .movfcsr2gr 3 0, .movfr2cf 2 1, .movcf2fr 1 2, .movgr2cf 2 4, .movcf2gr 3 2, .fsel 1 2 3 4, .fldS 1 4 8,
    .fstS 1 4 8, .fldD 1 4 8, .fstD 1 4 4088, .bceqz 1 4, .bcnez 1 4] := by decide

/-- 95_test_vectors.md 2.11, the undefined opcodes. -/
theorem test_decode_undefined : List.all
    [0x00000000, 0xFFFFFFFF, 0x00108000, 0x001B8000, 0x00220000, 0x002A8000, 0x00400000, 0x00410000, 0x00006800,
    0x01140000, 0x02C00000, 0x03000000, 0x05000000, 0x06483C00, 0x06484000, 0x06490000, 0x08000000, 0x08300000,
    0x0C300000, 0x18000000, 0x1E000000, 0x24000000, 0x2C000000, 0x28C00000, 0x29C00000, 0x2A800000, 0x38730000,
    0x38000000, 0x40000000, 0x44000000, 0x48000200, 0x48000300, 0x70000000]
    (fun w => decide (decode w = .undefinedOpcode)) = true := by decide

/-- 95_test_vectors.md 2.7 and 2.11, the reserved-field words. -/
theorem test_decode_reserved : List.all
    [0x0114D500, 0x0114D008, 0x06482801, 0x0C100008, 0x0D040000, 0x00006083, 0x00006483]
    (fun w => decide (decode w = .reservedField)) = true := by decide

theorem test_decode_table_word : decodeTableWord 32 0x00100823 = some (.addW 3 1 2) := by decide
theorem test_decode_bytes : decodeBytes [0x23, 0x08, 0x10, 0x00, 0xFF] = some (.ok (.addW 3 1 2), [0xFF]) := by decide

/-! ### One step: the start states and what is read of the outcome -/

/-- `x[r]` set. -/
def gpr (r : RegNo) (v : Word) (s : State) : State := writeGpr r v s
/-- `f[r]` set. -/
def fpr (r : FprNo) (v : DWord) (s : State) : State := writeFpr r v s
/-- `fcc[c]` set. -/
def flag (c : CfNo) (b : Bool) (s : State) : State := writeFcc c b s
/-- `fcsr0` set. -/
def fcsr (v : Word) (s : State) : State := { s with fcsr0 := v }
/-- The pc set. -/
def atPc (pc : Word) (s : State) : State := { s with pc := pc }
/-- At PLV3. -/
def user (s : State) : State := { s with plv := .plv3 }
/-- A byte marked dirty. -/
def marked (s : State) : State := { s with dirty := [0x2000] }
/-- The memory of 95_test_vectors.md section 2.5. -/
def withData (s : State) : State :=
  { s with
    mem := [(0x1000, 0x80), (0x1001, 0x7F), (0x1002, 0xFF), (0x1003, 0x01), (0x1004, 0xEF), (0x1005, 0xBE), (0x1006, 0xAD),
      (0x1007, 0xDE)]
    memMap := [{ base := 0x1000, size := 8, mat := .cc }] }

/-- One step on the word, placed at the pc. -/
def after (w : Nat) (s : State) : Out := step (s.withFetchWord 32 w)

def onNext {α : Type} (f : State → α) : Out → Option α
  | .next s => some (f s)
  | _ => none

def gprOf (r : RegNo) : Out → Option Word := onNext (readGpr r)
def pcOf : Out → Option Word := onNext State.pc
def fcsrOf : Out → Option Word := onNext State.fcsr0
def lowOf (r : FprNo) : Out → Option (Word × Word) := onNext (fun s => (readFprLow r s, s.fcsr0))
def fprOf64 (r : FprNo) : Out → Option (DWord × Word) := onNext (fun s => (readFpr r s, s.fcsr0))
def flagOf (c : CfNo) : Out → Option (Bool × Word) := onNext (fun s => (readFcc c s, s.fcsr0))
def llbitOf : Out → Option Bool := onNext State.llbit
def dirtyOf : Out → Option (List Nat) := onNext State.dirty
def dataOf : Out → Option (List Byte) :=
  onNext (fun s => [0x1000, 0x1001, 0x1002, 0x1003, 0x1004, 0x1005, 0x1006, 0x1007].map s.mem.readByte)

def aleOf : Out → Option Word
  | .fault (.ale a _) => some a
  | _ => none
def sysOf : Out → Option (BitVec 15)
  | .fault (.sys c _) => some c
  | _ => none
def brkOf : Out → Option (BitVec 15)
  | .fault (.brk c _) => some c
  | _ => none
def ipeOf : Out → Option Word
  | .fault (.ipe w _) => some w
  | _ => none
def fpeOf : Out → Option (FpExc × Word)
  | .fault (.fpe e s) => some (e, s.fcsr0)
  | _ => none
def noSemanticsOf : Out → Option Word
  | .refused (.noSemantics w) => some w
  | _ => none
def fcmpCondOf : Out → Option (BitVec 5)
  | .refused (.fcmpCond c) => some c
  | _ => none
def fcsrIndexOf : Out → Option (BitVec 5)
  | .refused (.fcsrIndex n) => some n
  | _ => none

/-! ### One step of each instruction -/

theorem test_add_w_signed_overflow_wraps :
    gprOf 3 (after 0x00100823 (gpr 2 0x00000001 (gpr 1 0x7FFFFFFF State.reset))) = some 0x80000000 := by decide
theorem test_add_w_to_r0_discarded : gprOf 0 (after 0x00100820 (gpr 2 6 (gpr 1 5 State.reset))) = some 0 := by decide
theorem test_sub_w_borrow : gprOf 3 (after 0x00110823 (gpr 2 1 (gpr 1 0 State.reset))) = some 0xFFFFFFFF := by decide
theorem test_sub_w_minuend_is_rj :
    gprOf 3 (after 0x00110823 (gpr 2 1 (gpr 1 0x80000000 State.reset))) = some 0x7FFFFFFF := by decide
theorem test_addi_w_sign_extends : gprOf 3 (after 0x02A00023 (gpr 1 0x00000800 State.reset)) = some 0 := by decide
theorem test_addi_w_wraps : gprOf 3 (after 0x029FFC23 (gpr 1 0x7FFFFFFF State.reset)) = some 0x800007FE := by decide
theorem test_lu12i_w_clears_low_bits :
    gprOf 3 (after 0x15FFFFE3 (gpr 3 0xFFFFFFFF State.reset)) = some 0xFFFFF000 := by decide
theorem test_pcaddu12i_negative : gprOf 3 (after 0x1DFFFFE3 State.reset) = some 0x1BFFF000 := by decide
theorem test_pcaddu12i_wraps : gprOf 3 (after 0x1D000003 (atPc 0x80000000 State.reset)) = some 0 := by decide
theorem test_slt_signed : gprOf 3 (after 0x00120823 (gpr 2 0 (gpr 1 0x80000000 State.reset))) = some 1 := by decide
theorem test_slt_equal : gprOf 3 (after 0x00120823 (gpr 2 7 (gpr 1 7 State.reset))) = some 0 := by decide
theorem test_sltu_unsigned : gprOf 3 (after 0x00128823 (gpr 2 0 (gpr 1 0x80000000 State.reset))) = some 0 := by decide
theorem test_sltu_less : gprOf 3 (after 0x00128823 (gpr 2 0xFFFFFFFF (gpr 1 0 State.reset))) = some 1 := by decide
theorem test_slti_negative : gprOf 3 (after 0x023FFC23 (gpr 1 0xFFFFFFFE State.reset)) = some 1 := by decide
theorem test_slti_zero : gprOf 3 (after 0x023FFC23 (gpr 1 0 State.reset)) = some 0 := by decide
theorem test_sltui_sign_extends_first : gprOf 3 (after 0x02600023 (gpr 1 0xFFFFF7FF State.reset)) = some 1 := by decide
theorem test_sltui_not_less : gprOf 3 (after 0x027FFC23 (gpr 1 0xFFFFFFFF State.reset)) = some 0 := by decide
theorem test_and_bits :
    gprOf 3 (after 0x00148823 (gpr 2 0x0FF00FF0 (gpr 1 0xFF00FF00 State.reset))) = some 0x0F000F00 := by decide
theorem test_or_bits :
    gprOf 3 (after 0x00150823 (gpr 2 0x0FF00FF0 (gpr 1 0xFF00FF00 State.reset))) = some 0xFFF0FFF0 := by decide
theorem test_nor_bits :
    gprOf 3 (after 0x00140823 (gpr 2 0x0FF00FF0 (gpr 1 0xFF00FF00 State.reset))) = some 0x000F000F := by decide
theorem test_xor_bits :
    gprOf 3 (after 0x00158823 (gpr 2 0x0FF00FF0 (gpr 1 0xFF00FF00 State.reset))) = some 0xF0F0F0F0 := by decide
theorem test_andi_zero_extends : gprOf 3 (after 0x037FFC23 (gpr 1 0xFFFFFFFF State.reset)) = some 0x00000FFF := by decide
theorem test_ori_keeps_high_bits : gprOf 3 (after 0x03BFFC23 (gpr 1 0x80000000 State.reset)) = some 0x80000FFF := by decide
theorem test_xori_zero_extends : gprOf 3 (after 0x03E00023 (gpr 1 0xFFFFFFFF State.reset)) = some 0xFFFFF7FF := by decide
theorem test_nop_advances_pc : pcOf (after 0x03400000 State.reset) = some 0x1C000004 := by decide
theorem test_mul_w_low_half :
    gprOf 3 (after 0x001C0823 (gpr 2 0x00010000 (gpr 1 0x00010000 State.reset))) = some 0 := by decide
theorem test_mul_w_signs : gprOf 3 (after 0x001C0823 (gpr 2 0xFFFFFFFF (gpr 1 0xFFFFFFFF State.reset))) = some 1 := by decide
theorem test_mulh_w_negative :
    gprOf 3 (after 0x001C8823 (gpr 2 0x7FFFFFFF (gpr 1 0x80000000 State.reset))) = some 0xC0000000 := by decide
theorem test_mulh_w_minus_ones :
    gprOf 3 (after 0x001C8823 (gpr 2 0xFFFFFFFF (gpr 1 0xFFFFFFFF State.reset))) = some 0 := by decide
theorem test_mulh_wu_largest :
    gprOf 3 (after 0x001D0823 (gpr 2 0xFFFFFFFF (gpr 1 0xFFFFFFFF State.reset))) = some 0xFFFFFFFE := by decide
theorem test_mulh_wu_one : gprOf 3 (after 0x001D0823 (gpr 2 1 (gpr 1 0xFFFFFFFF State.reset))) = some 0 := by decide
theorem test_div_w_truncates :
    gprOf 3 (after 0x00200823 (gpr 2 2 (gpr 1 0xFFFFFFF9 State.reset))) = some 0xFFFFFFFD := by decide
theorem test_div_w_overflow :
    gprOf 3 (after 0x00200823 (gpr 2 0xFFFFFFFF (gpr 1 0x80000000 State.reset))) = some 0x80000000 := by decide
theorem test_mod_w_sign_of_dividend :
    gprOf 3 (after 0x00208823 (gpr 2 2 (gpr 1 0xFFFFFFF9 State.reset))) = some 0xFFFFFFFF := by decide
theorem test_mod_w_negative_divisor :
    gprOf 3 (after 0x00208823 (gpr 2 0xFFFFFFFE (gpr 1 7 State.reset))) = some 1 := by decide
theorem test_div_wu_unsigned :
    gprOf 3 (after 0x00210823 (gpr 2 0xFFFFFFFF (gpr 1 0x80000000 State.reset))) = some 0 := by decide
theorem test_div_wu_floor :
    gprOf 3 (after 0x00210823 (gpr 2 2 (gpr 1 0xFFFFFFFF State.reset))) = some 0x7FFFFFFF := by decide
theorem test_mod_wu_unsigned :
    gprOf 3 (after 0x00218823 (gpr 2 0xFFFFFFFF (gpr 1 0x80000000 State.reset))) = some 0x80000000 := by decide
theorem test_mod_wu_floor : gprOf 3 (after 0x00218823 (gpr 2 2 (gpr 1 0xFFFFFFFF State.reset))) = some 1 := by decide
theorem test_sll_w_amount_mod_32 :
    gprOf 3 (after 0x00170823 (gpr 2 0x00000021 (gpr 1 0x80000001 State.reset))) = some 2 := by decide
theorem test_sll_w_top : gprOf 3 (after 0x00170823 (gpr 2 0x1F (gpr 1 1 State.reset))) = some 0x80000000 := by decide
theorem test_srl_w_zeros_enter : gprOf 3 (after 0x00178823 (gpr 2 0x1F (gpr 1 0x80000000 State.reset))) = some 1 := by decide
theorem test_srl_w_low_five_bits :
    gprOf 3 (after 0x00178823 (gpr 2 0xFFFFFFE0 (gpr 1 0x80000000 State.reset))) = some 0x80000000 := by decide
theorem test_sra_w_sign_enters :
    gprOf 3 (after 0x00180823 (gpr 2 4 (gpr 1 0x80000000 State.reset))) = some 0xF8000000 := by decide
theorem test_sra_w_positive : gprOf 3 (after 0x00180823 (gpr 2 0x1F (gpr 1 0x7FFFFFFF State.reset))) = some 0 := by decide
theorem test_slli_w_31 : gprOf 3 (after 0x0040FC23 (gpr 1 0xFFFFFFFF State.reset)) = some 0x80000000 := by decide
theorem test_slli_w_0 : gprOf 3 (after 0x00408023 (gpr 1 0x12345678 State.reset)) = some 0x12345678 := by decide
theorem test_srli_w_1 : gprOf 3 (after 0x00448423 (gpr 1 0x80000000 State.reset)) = some 0x40000000 := by decide
theorem test_srai_w_1 : gprOf 3 (after 0x00488423 (gpr 1 0x80000000 State.reset)) = some 0xC0000000 := by decide
theorem test_srai_w_30 : gprOf 3 (after 0x0048F823 (gpr 1 0x40000000 State.reset)) = some 1 := by decide
theorem test_beq_taken :
    pcOf (after 0x58001085 (gpr 5 5 (gpr 4 5 (atPc 0x1C000100 State.reset)))) = some 0x1C000110 := by decide
theorem test_beq_not_taken :
    pcOf (after 0x58001085 (gpr 5 6 (gpr 4 5 (atPc 0x1C000100 State.reset)))) = some 0x1C000104 := by decide
theorem test_bne_backward :
    pcOf (after 0x5FFFFC85 (gpr 5 6 (gpr 4 5 (atPc 0x1C000100 State.reset)))) = some 0x1C0000FC := by decide
theorem test_bne_not_taken :
    pcOf (after 0x5FFFFC85 (gpr 5 5 (gpr 4 5 (atPc 0x1C000100 State.reset)))) = some 0x1C000104 := by decide
theorem test_blt_signed :
    pcOf (after 0x61FFFC85 (gpr 5 0 (gpr 4 0xFFFFFFFF (atPc 0x1C000100 State.reset)))) = some 0x1C0200FC := by decide
theorem test_blt_not_taken :
    pcOf (after 0x61FFFC85 (gpr 5 0xFFFFFFFF (gpr 4 0 (atPc 0x1C000100 State.reset)))) = some 0x1C000104 := by decide
theorem test_bge_equal_backward :
    pcOf (after 0x66000085 (gpr 5 0x80000000 (gpr 4 0x80000000 (atPc 0x1C000100 State.reset)))) =
    some 0x1BFE0100 := by decide
theorem test_bge_signed :
    pcOf (after 0x64000885 (gpr 5 0x7FFFFFFF (gpr 4 0x80000000 (atPc 0x1C000100 State.reset)))) =
    some 0x1C000104 := by decide
theorem test_bltu_unsigned :
    pcOf (after 0x68000885 (gpr 5 0xFFFFFFFF (gpr 4 0 (atPc 0x1C000100 State.reset)))) = some 0x1C000108 := by decide
theorem test_bltu_not_taken :
    pcOf (after 0x68000885 (gpr 5 0 (gpr 4 0xFFFFFFFF (atPc 0x1C000100 State.reset)))) = some 0x1C000104 := by decide
theorem test_bgeu_to_itself :
    pcOf (after 0x6C000085 (gpr 5 0 (gpr 4 0xFFFFFFFF (atPc 0x1C000100 State.reset)))) = some 0x1C000100 := by decide
theorem test_bgeu_not_taken :
    pcOf (after 0x6C000C85 (gpr 5 1 (gpr 4 0 (atPc 0x1C000100 State.reset)))) = some 0x1C000104 := by decide
theorem test_b_forward :
    pcOf (after 0x53FFFDFF (gpr 5 0 (gpr 4 0 (atPc 0x1C000100 State.reset)))) = some 0x240000FC := by decide
theorem test_b_backward :
    pcOf (after 0x50000200 (gpr 5 0 (gpr 4 0 (atPc 0x1C000100 State.reset)))) = some 0x14000100 := by decide
theorem test_bl_links_r1 : gprOf 1 (after 0x54010000 (atPc 0x1C000100 State.reset)) = some 0x1C000104 := by decide
theorem test_bl_jumps : pcOf (after 0x57FFFFFF (atPc 0x1C000100 State.reset)) = some 0x1C0000FC := by decide
theorem test_jirl_uses_old_register :
    pcOf (after 0x4C000021 (gpr 1 0x1C000300 (atPc 0x1C000100 State.reset))) = some 0x1C000300 := by decide
theorem test_jirl_links :
    gprOf 1 (after 0x4C000021 (gpr 1 0x1C000300 (atPc 0x1C000100 State.reset))) = some 0x1C000104 := by decide
theorem test_ld_b_sign_extends :
    gprOf 3 (after 0x28000083 (gpr 4 0x1000 (withData State.reset))) = some 0xFFFFFF80 := by decide
theorem test_ld_b_positive : gprOf 3 (after 0x28000483 (gpr 4 0x1000 (withData State.reset))) = some 0x7F := by decide
theorem test_ld_bu_zero_extends : gprOf 3 (after 0x2A000083 (gpr 4 0x1000 (withData State.reset))) = some 0x80 := by decide
theorem test_ld_h_little_endian :
    gprOf 3 (after 0x28400883 (gpr 4 0x1000 (withData State.reset))) = some 0x000001FF := by decide
theorem test_ld_hu_little_endian :
    gprOf 3 (after 0x2A400083 (gpr 4 0x1000 (withData State.reset))) = some 0x7F80 := by decide
theorem test_ld_w_little_endian :
    gprOf 3 (after 0x28801083 (gpr 4 0x1000 (withData State.reset))) = some 0xDEADBEEF := by decide
theorem test_ld_w_negative_offset :
    gprOf 3 (after 0x28A00083 (gpr 4 0x1800 (withData State.reset))) = some 0x01FF7F80 := by decide
theorem test_ld_h_misaligned : aleOf (after 0x28400483 (gpr 4 0x1000 (withData State.reset))) = some 0x1001 := by decide
theorem test_ld_hu_misaligned : aleOf (after 0x2A400083 (gpr 4 0x1003 (withData State.reset))) = some 0x1003 := by decide
theorem test_st_b_low_byte :
    dataOf (after 0x29000C83 (gpr 3 0x12345678 (gpr 4 0x1000 (withData State.reset)))) =
    some [0x80, 0x7F, 0xFF, 0x78, 0xEF, 0xBE, 0xAD, 0xDE] := by decide
theorem test_st_b_marks_dirty : dirtyOf (after 0x29000C83 (gpr 4 0x1000 (withData State.reset))) = some [0x1003] := by decide
theorem test_st_h_low_half :
    dataOf (after 0x29400883 (gpr 3 0x12345678 (gpr 4 0x1000 (withData State.reset)))) =
    some [0x80, 0x7F, 0x78, 0x56, 0xEF, 0xBE, 0xAD, 0xDE] := by decide
theorem test_st_h_misaligned : aleOf (after 0x29400083 (gpr 4 0x1001 (withData State.reset))) = some 0x1001 := by decide
theorem test_st_w_word :
    dataOf (after 0x29801083 (gpr 3 0x12345678 (gpr 4 0x1000 (withData State.reset)))) =
    some [0x80, 0x7F, 0xFF, 0x01, 0x78, 0x56, 0x34, 0x12] := by decide
theorem test_st_w_ale_before_unmapped :
    aleOf (after 0x29800083 (gpr 4 0x1006 (withData State.reset))) = some 0x1006 := by decide
theorem test_preld_never_traps : pcOf (after 0x2AC0009F (gpr 4 0x9001 (withData State.reset))) = some 0x1C000004 := by decide
theorem test_ll_w_loads : gprOf 3 (after 0x20000483 (gpr 4 0x1000 (withData State.reset))) = some 0xDEADBEEF := by decide
theorem test_ll_w_sets_llbit : llbitOf (after 0x20000080 (gpr 4 0x1000 (withData State.reset))) = some true := by decide
theorem test_sc_w_fails_without_llbit :
    gprOf 3 (after 0x21000083 (gpr 3 0x2B (gpr 4 0x1004 (withData State.reset)))) = some 0 := by decide
theorem test_dbar_keeps_dirty : dirtyOf (after 0x38727FFF (marked State.reset)) = some [0x2000] := by decide
theorem test_ibar_empties_dirty : dirtyOf (after 0x38728000 (marked State.reset)) = some [] := by decide
theorem test_syscall_code : sysOf (after 0x002B7FFF State.reset) = some 0x7FFF := by decide
theorem test_break_code : brkOf (after 0x002A0005 State.reset) = some 5 := by decide
theorem test_rdcntvl_w_completes : pcOf (after 0x00006003 State.reset) = some 0x1C000004 := by decide
theorem test_rdcntvh_w_completes : pcOf (after 0x00006403 State.reset) = some 0x1C000004 := by decide
theorem test_rdcntid_to_r0 : gprOf 0 (after 0x00006000 State.reset) = some 0 := by decide
theorem test_csrrd_ipe_at_plv3 : ipeOf (after 0x04000004 (user State.reset)) = some 0x04000004 := by decide
theorem test_csrrd_refused_at_plv0 : noSemanticsOf (after 0x04000004 State.reset) = some 0x04000004 := by decide
theorem test_csrwr_ipe_at_plv3 : ipeOf (after 0x04000024 (user State.reset)) = some 0x04000024 := by decide
theorem test_csrwr_refused_at_plv0 : noSemanticsOf (after 0x04000024 State.reset) = some 0x04000024 := by decide
theorem test_csrxchg_ipe_at_plv3 : ipeOf (after 0x040000A4 (user State.reset)) = some 0x040000A4 := by decide
theorem test_csrxchg_refused_at_plv0 : noSemanticsOf (after 0x040000A4 State.reset) = some 0x040000A4 := by decide
theorem test_tlbsrch_ipe_at_plv3 : ipeOf (after 0x06482800 (user State.reset)) = some 0x06482800 := by decide
theorem test_tlbsrch_refused_at_plv0 : noSemanticsOf (after 0x06482800 State.reset) = some 0x06482800 := by decide
theorem test_tlbrd_ipe_at_plv3 : ipeOf (after 0x06482C00 (user State.reset)) = some 0x06482C00 := by decide
theorem test_tlbrd_refused_at_plv0 : noSemanticsOf (after 0x06482C00 State.reset) = some 0x06482C00 := by decide
theorem test_tlbwr_ipe_at_plv3 : ipeOf (after 0x06483000 (user State.reset)) = some 0x06483000 := by decide
theorem test_tlbwr_refused_at_plv0 : noSemanticsOf (after 0x06483000 State.reset) = some 0x06483000 := by decide
theorem test_tlbfill_ipe_at_plv3 : ipeOf (after 0x06483400 (user State.reset)) = some 0x06483400 := by decide
theorem test_tlbfill_refused_at_plv0 : noSemanticsOf (after 0x06483400 State.reset) = some 0x06483400 := by decide
theorem test_ertn_ipe_at_plv3 : ipeOf (after 0x06483800 (user State.reset)) = some 0x06483800 := by decide
theorem test_ertn_refused_at_plv0 : noSemanticsOf (after 0x06483800 State.reset) = some 0x06483800 := by decide
theorem test_idle_ipe_at_plv3 : ipeOf (after 0x06488000 (user State.reset)) = some 0x06488000 := by decide
theorem test_idle_refused_at_plv0 : noSemanticsOf (after 0x06488000 State.reset) = some 0x06488000 := by decide
theorem test_invtlb_ipe_at_plv3 : ipeOf (after 0x06498000 (user State.reset)) = some 0x06498000 := by decide
theorem test_invtlb_refused_at_plv0 : noSemanticsOf (after 0x06498000 State.reset) = some 0x06498000 := by decide
theorem test_cacop_refused_at_plv3 : noSemanticsOf (after 0x06000080 (user State.reset)) = some 0x06000080 := by decide
theorem test_fadd_s_rp :
    lowOf 1 (after 0x01008C41 (fcsr 0x00000200 (fpr 3 0x33800000 (fpr 2 0x3F800000 State.reset)))) =
    some (0x3F800001, 0x01010200) := by decide
theorem test_fadd_s_inexact_traps :
    fpeOf (after 0x01008C41 (fcsr 0x00000001 (fpr 3 0x33800000 (fpr 2 0x3F800000 State.reset)))) =
    some (0b00001, 0x01000001) := by decide
theorem test_fadd_d_exact :
    fprOf64 1 (after 0x01010C41 (fcsr 0x00000000 (fpr 3 0x4000000000000000 (fpr 2 0x3FF0000000000000 State.reset)))) =
    some (0x4008000000000000, 0) := by decide
theorem test_fsub_s_zero_under_rm :
    lowOf 1 (after 0x01028C41 (fcsr 0x00000300 (fpr 3 0x3F800000 (fpr 2 0x3F800000 State.reset)))) =
    some (0x80000000, 0x00000300) := by decide
theorem test_fsub_d_minuend_is_fj :
    fprOf64 1 (after 0x01030C41 (fpr 3 0x4004000000000000 (fpr 2 0x3FF8000000000000 State.reset))) =
    some (0xBFF0000000000000, 0) := by decide
theorem test_fmul_s_overflow :
    lowOf 1 (after 0x01048C41 (fcsr 0x00000100 (fpr 3 0x40000000 (fpr 2 0x7F7FFFFF State.reset)))) =
    some (0x7F7FFFFF, 0x05050100) := by decide
theorem test_fmul_s_underflow :
    lowOf 1 (after 0x01048C41 (fpr 3 0x3F000000 (fpr 2 0x00800001 State.reset))) = some (0x00400000, 0x03030000) := by decide
theorem test_fmul_d_exact :
    fprOf64 1 (after 0x01050C41 (fpr 3 0x4000000000000000 (fpr 2 0x3FF8000000000000 State.reset))) =
    some (0x4008000000000000, 0) := by decide
theorem test_fdiv_s_by_zero :
    lowOf 1 (after 0x01068C41 (fpr 3 0 (fpr 2 0xBF800000 State.reset))) = some (0xFF800000, 0x08080000) := by decide
theorem test_fdiv_s_rounds :
    lowOf 1 (after 0x01068C41 (fcsr 0x00000100 (fpr 3 0x40400000 (fpr 2 0x3F800000 State.reset)))) =
    some (0x3EAAAAAA, 0x01010100) := by decide
theorem test_fdiv_d_rounds :
    fprOf64 1 (after 0x01070C41 (fpr 3 0x4008000000000000 (fpr 2 0x3FF0000000000000 State.reset))) =
    some (0x3FD5555555555555, 0x01010000) := by decide
theorem test_fmadd_s_rounds_once :
    lowOf 1 (after 0x08120C41 (fpr 4 0xBF801000 (fpr 3 0x3F800800 (fpr 2 0x3F800800 State.reset)))) =
    some (0x33800000, 0) := by decide
theorem test_fmadd_d :
    fprOf64 1 (after 0x08220C41 (fpr 4 0x3FF0000000000000 (fpr 3 0x4008000000000000 (fpr 2 0x4000000000000000 State.reset)))) =
    some (0x401C000000000000, 0) := by decide
theorem test_fmsub_s :
    lowOf 1 (after 0x08520C41 (fpr 4 0x3F800000 (fpr 3 0x40400000 (fpr 2 0x40000000 State.reset)))) =
    some (0x40A00000, 0) := by decide
theorem test_fmsub_d :
    fprOf64 1 (after 0x08620C41 (fpr 4 0x3FF0000000000000 (fpr 3 0x4008000000000000 (fpr 2 0x4000000000000000 State.reset)))) =
    some (0x4014000000000000, 0) := by decide
theorem test_fnmadd_s :
    lowOf 1 (after 0x08920C41 (fpr 4 0x3F800000 (fpr 3 0x40400000 (fpr 2 0x40000000 State.reset)))) =
    some (0xC0E00000, 0) := by decide
theorem test_fnmadd_d :
    fprOf64 1 (after 0x08A20C41 (fpr 4 0x3FF0000000000000 (fpr 3 0x4008000000000000 (fpr 2 0x4000000000000000 State.reset)))) =
    some (0xC01C000000000000, 0) := by decide
theorem test_fnmsub_s :
    lowOf 1 (after 0x08D20C41 (fpr 4 0x3F800000 (fpr 3 0x40400000 (fpr 2 0x40000000 State.reset)))) =
    some (0xC0A00000, 0) := by decide
theorem test_fnmsub_d :
    fprOf64 1 (after 0x08E20C41 (fpr 4 0x3FF0000000000000 (fpr 3 0x4008000000000000 (fpr 2 0x4000000000000000 State.reset)))) =
    some (0xC014000000000000, 0) := by decide
theorem test_fmax_s_quiet_nan :
    lowOf 1 (after 0x01088C41 (fpr 3 0x40000000 (fpr 2 0x7FC00000 State.reset))) = some (0x40000000, 0) := by decide
theorem test_fmax_d :
    fprOf64 1 (after 0x01090C41 (fpr 3 0x4000000000000000 (fpr 2 0xBFF0000000000000 State.reset))) =
    some (0x4000000000000000, 0) := by decide
theorem test_fmin_s :
    lowOf 1 (after 0x010A8C41 (fpr 3 0x40000000 (fpr 2 0xBF800000 State.reset))) = some (0xBF800000, 0) := by decide
theorem test_fmin_d :
    fprOf64 1 (after 0x010B0C41 (fpr 3 0x4000000000000000 (fpr 2 0xBFF0000000000000 State.reset))) =
    some (0xBFF0000000000000, 0) := by decide
theorem test_fmaxa_s :
    lowOf 1 (after 0x010C8C41 (fpr 3 0x40000000 (fpr 2 0xC0400000 State.reset))) = some (0xC0400000, 0) := by decide
theorem test_fmaxa_d_equal_magnitudes :
    fprOf64 1 (after 0x010D0C41 (fpr 3 0x4008000000000000 (fpr 2 0xC008000000000000 State.reset))) =
    some (0x4008000000000000, 0) := by decide
theorem test_fmina_s :
    lowOf 1 (after 0x010E8C41 (fpr 3 0x40000000 (fpr 2 0xC0400000 State.reset))) = some (0x40000000, 0) := by decide
theorem test_fmina_d :
    fprOf64 1 (after 0x010F0C41 (fpr 3 0x4000000000000000 (fpr 2 0xC008000000000000 State.reset))) =
    some (0x4000000000000000, 0) := by decide
theorem test_fabs_s_signaling_nan :
    lowOf 1 (after 0x01140441 (fpr 2 0xFFA00000 State.reset)) = some (0x7FA00000, 0) := by decide
theorem test_fabs_d :
    fprOf64 1 (after 0x01140841 (fpr 2 0xBFF8000000000000 State.reset)) = some (0x3FF8000000000000, 0) := by decide
theorem test_fneg_s_keeps_fcsr :
    lowOf 1 (after 0x01141441 (fcsr 0x1F1F0000 (fpr 2 0 State.reset))) = some (0x80000000, 0x1F1F0000) := by decide
theorem test_fneg_d :
    fprOf64 1 (after 0x01141841 (fpr 2 0x3FF8000000000000 State.reset)) = some (0xBFF8000000000000, 0) := by decide
theorem test_fcopysign_s :
    lowOf 1 (after 0x01128C41 (fpr 3 0x80000000 (fpr 2 0x3FC00000 State.reset))) = some (0xBFC00000, 0) := by decide
theorem test_fcopysign_d :
    fprOf64 1 (after 0x01130C41 (fpr 3 0xC000000000000000 (fpr 2 0x3FF8000000000000 State.reset))) =
    some (0xBFF8000000000000, 0) := by decide
theorem test_fsqrt_s_rounds :
    lowOf 1 (after 0x01144441 (fpr 2 0x40000000 State.reset)) = some (0x3FB504F3, 0x01010000) := by decide +kernel
theorem test_fsqrt_s_minus_zero :
    lowOf 1 (after 0x01144441 (fpr 2 0x80000000 State.reset)) = some (0x80000000, 0) := by decide
theorem test_fsqrt_d_rounds :
    fprOf64 1 (after 0x01144841 (fpr 2 0x4000000000000000 State.reset)) =
    some (0x3FF6A09E667F3BCD, 0x01010000) := by decide +kernel
theorem test_frecip_s_zero : lowOf 1 (after 0x01145441 (fpr 2 0 State.reset)) = some (0x7F800000, 0x08080000) := by decide
theorem test_frecip_d :
    fprOf64 1 (after 0x01145841 (fpr 2 0x4010000000000000 State.reset)) = some (0x3FD0000000000000, 0) := by decide
theorem test_frsqrt_s_minus_zero :
    lowOf 1 (after 0x01146441 (fpr 2 0x80000000 State.reset)) = some (0xFF800000, 0x08080000) := by decide
theorem test_frsqrt_d :
    fprOf64 1 (after 0x01146841 (fpr 2 0x4010000000000000 State.reset)) = some (0x3FE0000000000000, 0) := by decide +kernel
theorem test_fclass_s_negative_subnormal :
    lowOf 1 (after 0x01143441 (fpr 2 0x80000001 State.reset)) = some (0x010, 0) := by decide
theorem test_fclass_s_signaling : lowOf 1 (after 0x01143441 (fpr 2 0x7FA00000 State.reset)) = some (0x001, 0) := by decide
theorem test_fclass_d_negative_normal :
    fprOf64 1 (after 0x01143841 (fcsr 0x01010000 (fpr 2 0xBFF0000000000000 State.reset))) = some (8, 0x01010000) := by decide
theorem test_fcmp_ceq_s_zeros :
    flagOf 0 (after 0x0C120820 (fpr 2 0x80000000 (fpr 1 0 State.reset))) = some (true, 0) := by decide
theorem test_fcmp_sune_s_quiet_nan :
    flagOf 0 (after 0x0C1C8820 (fpr 2 0x3F800000 (fpr 1 0x7FC00000 State.reset))) = some (true, 0x10100000) := by decide
theorem test_fcmp_s_unlisted_refused : fcmpCondOf (after 0x0C190820 State.reset) = some 0x12 := by decide
theorem test_fcmp_sune_d :
    flagOf 7 (after 0x0C2C83E7 (fpr 0 0x4000000000000000 (fpr 31 0x3FF0000000000000 State.reset))) =
    some (true, 0) := by decide
theorem test_fcmp_s_traps :
    fpeOf (after 0x0C118820 (fcsr 0x00000010 (fpr 2 0x3F800000 (fpr 1 0x7FC00000 State.reset)))) =
    some (0b10000, 0x10000010) := by decide
theorem test_fcvt_s_d_tiny :
    lowOf 1 (after 0x01191841 (fpr 2 0x36A8000000000000 State.reset)) = some (2, 0x03030000) := by decide
theorem test_fcvt_s_d_rounds :
    lowOf 1 (after 0x01191841 (fpr 2 0x3FB999999999999A State.reset)) = some (0x3DCCCCCD, 0x01010000) := by decide
theorem test_fcvt_d_s_subnormal :
    fprOf64 1 (after 0x01192441 (fpr 2 1 State.reset)) = some (0x36A0000000000000, 0) := by decide
theorem test_ffint_s_w_rounds :
    lowOf 1 (after 0x011D1041 (fcsr 0x00000100 (fpr 2 0x7FFFFFFF State.reset))) = some (0x4EFFFFFF, 0x01010100) := by decide
theorem test_ffint_s_w_negative :
    lowOf 1 (after 0x011D1041 (fpr 2 0xFFFFFFFF State.reset)) = some (0xBF800000, 0) := by decide
theorem test_ffint_d_w_smallest :
    fprOf64 1 (after 0x011D2041 (fcsr 0x01010000 (fpr 2 0x80000000 State.reset))) =
    some (0xC1E0000000000000, 0x00010000) := by decide
theorem test_ftint_w_s_rp :
    lowOf 1 (after 0x011B0441 (fcsr 0x00000200 (fpr 2 0x40200000 State.reset))) = some (3, 0x01010200) := by decide
theorem test_ftint_w_s_smallest :
    lowOf 1 (after 0x011B0441 (fpr 2 0xCF000000 State.reset)) = some (0x80000000, 0) := by decide
theorem test_ftint_w_d_largest :
    lowOf 1 (after 0x011B0841 (fpr 2 0x41DFFFFFFFC00000 State.reset)) = some (0x7FFFFFFF, 0) := by decide
theorem test_ftintrm_w_s :
    lowOf 1 (after 0x011A0441 (fcsr 0x00000200 (fpr 2 0xBF000000 State.reset))) = some (0xFFFFFFFF, 0x01010200) := by decide
theorem test_ftintrm_w_d :
    lowOf 1 (after 0x011A0841 (fpr 2 0x4004000000000000 State.reset)) = some (2, 0x01010000) := by decide
theorem test_ftintrp_w_s :
    lowOf 1 (after 0x011A4441 (fcsr 0x00000300 (fpr 2 0xBF000000 State.reset))) = some (0, 0x01010300) := by decide
theorem test_ftintrp_w_d :
    lowOf 1 (after 0x011A4841 (fpr 2 0xC004000000000000 State.reset)) = some (0xFFFFFFFE, 0x01010000) := by decide
theorem test_ftintrz_w_s :
    lowOf 1 (after 0x011A8441 (fcsr 0x00000300 (fpr 2 0xC0200000 State.reset))) = some (0xFFFFFFFE, 0x01010300) := by decide
theorem test_ftintrz_w_d :
    lowOf 1 (after 0x011A8841 (fpr 2 0x41DFFFFFFFE00000 State.reset)) = some (0x7FFFFFFF, 0x01010000) := by decide
theorem test_ftintrne_w_s :
    lowOf 1 (after 0x011AC441 (fcsr 0x00000200 (fpr 2 0x40200000 State.reset))) = some (2, 0x01010200) := by decide
theorem test_ftintrne_w_d :
    lowOf 1 (after 0x011AC841 (fpr 2 0x400C000000000000 State.reset)) = some (4, 0x01010000) := by decide
theorem test_ftint_w_s_invalid_traps :
    fpeOf (after 0x011B0441 (fcsr 0x00000010 (fpr 2 0x4F000000 State.reset))) = some (0b10000, 0x10000010) := by decide
theorem test_fmov_s : lowOf 1 (after 0x01149441 (fpr 2 0xAAAAAAAA7FA00000 State.reset)) = some (0x7FA00000, 0) := by decide
theorem test_fmov_d :
    fprOf64 1 (after 0x01149841 (fpr 2 0x400921FB54442D18 State.reset)) = some (0x400921FB54442D18, 0) := by decide
theorem test_fsel_one_selects_fk :
    fprOf64 1 (after 0x0D038C41 (flag 7 true (fpr 3 0x2222222222222222 (fpr 2 0x1111111111111111 State.reset)))) =
    some (0x2222222222222222, 0) := by decide
theorem test_fsel_zero_selects_fj :
    fprOf64 1 (after 0x0D038C41 (fpr 3 0x2222222222222222 (fpr 2 0x1111111111111111 State.reset))) =
    some (0x1111111111111111, 0) := by decide
theorem test_movgr2fr_w : lowOf 1 (after 0x0114A481 (gpr 4 0x3FC00000 State.reset)) = some (0x3FC00000, 0) := by decide
theorem test_movgr2frh_w_keeps_low :
    fprOf64 1 (after 0x0114ACA1 (gpr 5 0x400921FB (fpr 1 0x54442D18 State.reset))) =
    some (0x400921FB54442D18, 0) := by decide
theorem test_movfr2gr_s : gprOf 3 (after 0x0114B423 (fpr 1 0x400921FB54442D18 State.reset)) = some 0x54442D18 := by decide
theorem test_movfrh2gr_s : gprOf 3 (after 0x0114BC23 (fpr 1 0x400921FB54442D18 State.reset)) = some 0x400921FB := by decide
theorem test_movfr2cf_bit_0 :
    flagOf 7 (after 0x0114D3E7 (flag 7 true (fpr 31 0xFFFFFFFFFFFFFFFE State.reset))) = some (false, 0) := by decide
theorem test_movcf2fr_whole_register :
    fprOf64 1 (after 0x0114D401 (flag 0 true (fpr 1 0xFFFFFFFFFFFFFFFF State.reset))) = some (1, 0) := by decide
theorem test_movgr2cf_bit_0 : flagOf 2 (after 0x0114D882 (gpr 4 3 State.reset)) = some (true, 0) := by decide
theorem test_movcf2gr_whole_register :
    gprOf 3 (after 0x0114DCE3 (gpr 3 0xFFFFFFFF (flag 7 true State.reset))) = some 1 := by decide
theorem test_movgr2fcsr_drops_reserved :
    fcsrOf (after 0x0114C080 (gpr 4 0xFFFFFFFF State.reset)) = some 0x1F1F031F := by decide
theorem test_movgr2fcsr_enables_only :
    fcsrOf (after 0x0114C081 (fcsr 0x01010300 (gpr 4 0xFFFFFFFF State.reset))) = some 0x0101031F := by decide
theorem test_movgr2fcsr_index_refused : fcsrIndexOf (after 0x0114C09F State.reset) = some 31 := by decide
theorem test_movfcsr2gr_fcsr2 : gprOf 3 (after 0x0114C843 (fcsr 0x1F1F031F State.reset)) = some 0x1F1F0000 := by decide
theorem test_movfcsr2gr_index_refused : fcsrIndexOf (after 0x0114C883 State.reset) = some 4 := by decide
theorem test_bceqz_taken : pcOf (after 0x48001020 State.reset) = some 0x1C000010 := by decide
theorem test_bceqz_not_taken : pcOf (after 0x48001020 (flag 1 true State.reset)) = some 0x1C000004 := by decide
theorem test_bcnez_forward : pcOf (after 0x4BFFFD0F (flag 0 true State.reset)) = some 0x1C3FFFFC := by decide
theorem test_bcnez_backward :
    pcOf (after 0x480001F0 (flag 7 true (atPc 0x1C400000 State.reset))) = some 0x1C000000 := by decide
theorem test_fld_s : lowOf 1 (after 0x2B001081 (gpr 4 0x1000 (withData State.reset))) = some (0xDEADBEEF, 0) := by decide
theorem test_fld_d :
    fprOf64 1 (after 0x2B800081 (gpr 4 0x1000 (withData State.reset))) = some (0xDEADBEEF01FF7F80, 0) := by decide
theorem test_fld_d_needs_8 : aleOf (after 0x2B801081 (gpr 4 0x1000 (withData State.reset))) = some 0x1004 := by decide
theorem test_fst_s :
    dataOf (after 0x2B400081 (fpr 1 0x400921FB3FC00000 (gpr 4 0x1000 (withData State.reset)))) =
    some [0x00, 0x00, 0xC0, 0x3F, 0xEF, 0xBE, 0xAD, 0xDE] := by decide
theorem test_fst_d :
    dataOf (after 0x2BFFE081 (fpr 1 0x400921FB54442D18 (gpr 4 0x1008 (withData State.reset)))) =
    some [0x18, 0x2D, 0x44, 0x54, 0xFB, 0x21, 0x09, 0x40] := by decide
theorem test_fst_d_misaligned : aleOf (after 0x2BC01081 (gpr 4 0x1000 (withData State.reset))) = some 0x1004 := by decide

/-- SC.W with LLbit 1, run without the boundary, where the environment may clear LLbit (log 3). -/
def scStart : State := gpr 3 0x2B (gpr 4 0x1004 (setLlbit true (withData State.reset)))
theorem test_sc_w_stores :
    dataOf (exec (.scW 3 4 0) scStart) = some [0x80, 0x7F, 0xFF, 0x01, 0x2B, 0x00, 0x00, 0x00] := by decide
theorem test_sc_w_clears_llbit : llbitOf (exec (.scW 3 4 0) scStart) = some false := by decide

/-! ### The fetch stage (20_memory.md R67) -/

theorem test_fetch_misaligned : (match step (atPc 0x1C000002 State.reset) with
    | .fault (.adef pc _) => some pc
    | _ => none) = some 0x1C000002 := by decide
theorem test_fetch_unmapped : (match step (atPc 0x2000 (withData State.reset)) with
    | .refused (.unmapped a) => some a
    | _ => none) = some 0x2000 := by decide
theorem test_fetch_stale : (match step (atPc 0x2000 (marked State.reset)) with
    | .refused (.staleFetch a) => some a
    | _ => none) = some 0x2000 := by decide
theorem test_fetch_undefined : (match step State.reset with
    | .fault (.ine w _) => some w
    | _ => none) = some 0 := by decide
theorem test_reserved_before_privilege : (match after 0x06482801 (user State.reset) with
    | .refused (.reservedField w) => some w
    | _ => none) = some 0x06482801 := by decide
theorem test_load_unmapped : (match after 0x28802083 (gpr 4 0x1000 (withData State.reset)) with
    | .refused (.unmapped a) => some a
    | _ => none) = some 0x1008 := by decide

/-! ### Witnesses: for each statement of Certificates/Slice0/Obligations.lean, operands and a state that meet its hypotheses,
clause by clause where it has several -/

/-- The outcome is a next state. -/
def isNext : Out → Bool
  | .next _ => true
  | _ => false
/-- The outcome is a trap. -/
def isFault : Out → Bool
  | .fault _ => true
  | _ => false
theorem next_of {o : Out} (h : isNext o = true) : ∃ t, o = .next t := by cases o <;> first | exact ⟨_, rfl⟩ | cases h
theorem fault_of {o : Out} (h : isFault o = true) : ∃ f, o = .fault f := by cases o <;> first | exact ⟨_, rfl⟩ | cases h

/-- A state with ADD.W r3, r1, r2 at the pc. -/
def addStart : State := State.reset.withFetchWord 32 0x00100823

-- Rows: every row's own match meets its mask (Row3R and the other formats, PrivilegedWords, CounterReads, LogicResults).
theorem test_hyp_rows : opcodeRows.all (fun r => r.mtch &&& r.mask == r.mtch) = true := by decide
theorem test_hyp_rows_but_one :
    (0x0340FC23#32 ≠ 0x03400000#32 ∧ 0x0340FC23#32 &&& 0xFFC00000#32 = 0x03400000#32) ∧
    (0x00006004#32 ≠ 0x00006000#32 ∧ 0x00006004#32 &&& 0xFFFFFFE0#32 = 0x00006000#32) := by decide

theorem test_hyp_DecodeOfEncode : (Instr.csrxchg 4 2 0).wellFormed = true := by decide
theorem test_hyp_EncodeOfDecode : decode 0x040000A4 = .ok (.csrxchg 4 5 0) := by decide
theorem test_hyp_UndefinedOpcode : opcodeRows.all (fun r => 0x4BFFFFFF#32 &&& r.opcodeMask != r.mtch &&& r.opcodeMask) = true := by
  decide
theorem test_hyp_ReservedFields :
    opcodeRows.any (fun r => 0x06482801#32 &&& r.opcodeMask == r.mtch &&& r.opcodeMask) = true ∧
    opcodeRows.all (fun r => 0x06482801#32 &&& r.mask != r.mtch) = true := by decide
theorem test_hyp_StepRunsDecoded : addStart.pc.toNat % 4 = 0 ∧
    (∀ k, k < 4 → mapped (addStart.pc + BitVec.ofNat 32 k) addStart = true ∧
      (addStart.pc + BitVec.ofNat 32 k).toNat ∉ addStart.dirty) ∧
    decode (instrWordAt addStart.pc addStart) = .ok (.addW 3 1 2) := by decide
theorem test_hyp_Fetch_misaligned : (atPc 0x1C000001 State.reset).pc.extractLsb' 0 2 ≠ 0 := by decide
theorem test_hyp_Fetch_unmapped : (atPc 0xFFC (withData State.reset)).pc.extractLsb' 0 2 = 0 ∧
    mapped (0xFFC#32 + BitVec.ofNat 32 3) (withData State.reset) = false := by decide
theorem test_hyp_Fetch_dirty : (atPc 0x2000 (marked State.reset)).pc.extractLsb' 0 2 = 0 ∧
    (0x2000#32 + BitVec.ofNat 32 0).toNat ∈ (marked State.reset).dirty := by decide
theorem test_hyp_Fetch_decodes :
    decode 0x4BFFFFFF = .undefinedOpcode ∧ decode 0x06482801 = .reservedField ∧ decode 0x06482800 = .ok .tlbsrch ∧
    privileged .tlbsrch = true ∧ (user State.reset).plv = .plv3 ∧ ¬(privileged (.addW 3 1 2) = true ∧ addStart.plv = .plv3) := by
  decide
theorem test_hyp_Fetch_word : ∀ k, k < 4 → mapped (addStart.pc + BitVec.ofNat 32 k) addStart = true ∧
    (addStart.pc + BitVec.ofNat 32 k).toNat ∉ addStart.dirty := by decide

/-- LL.W, ST.W and SC.W at 0x1000 complete here. -/
def dataStart : State := gpr 4 0x1000 (withData State.reset)
theorem test_hyp_LinkBit_ll : isLoadLinked (.llW 3 4 0) = true ∧ ∃ t, exec (.llW 3 4 0) dataStart = .next t :=
  ⟨rfl, next_of (by decide)⟩
theorem test_hyp_LinkBit_sc : isStoreConditional (.scW 3 4 0) = true ∧ ∃ t, exec (.scW 3 4 0) dataStart = .next t :=
  ⟨rfl, next_of (by decide)⟩
theorem test_hyp_LinkBit_other : isLoadLinked (.stW 3 4 0) = false ∧ isStoreConditional (.stW 3 4 0) = false ∧
    ∃ t, exec (.stW 3 4 0) dataStart = .next t := ⟨rfl, rfl, next_of (by decide)⟩
theorem test_hyp_TrapsArePrecise_exec : ∃ f, exec (.fdivS 1 2 3) (fcsr 8 (fpr 2 0x3F800000 State.reset)) = .fault f :=
  fault_of (by decide)
theorem test_hyp_TrapsArePrecise_step : ∃ f, step State.reset = .fault f := fault_of (by decide)
theorem test_hyp_step_next : ∃ t, step addStart = .next t := next_of (by decide)
theorem test_hyp_Inv : Inv State.reset :=
  ⟨rfl, rfl, ⟨List.Pairwise.nil, fun _ h => nomatch h⟩, List.Pairwise.nil, fun _ h => nomatch h⟩
theorem test_hyp_InvKept : Inv addStart ∧ ∃ t, step addStart = .next t :=
  ⟨⟨by decide, by decide, by decide, by decide, fun _ h => nomatch h⟩, test_hyp_step_next⟩
theorem test_hyp_Pc_advance : assignsPc (.addW 3 1 2) = false ∧ ∃ t, exec (.addW 3 1 2) State.reset = .next t := ⟨rfl, _, rfl⟩
theorem test_hyp_Pc_aligned : isJirl (.b 4) = false ∧ State.reset.pc.toNat % 4 = 0 ∧ ∃ t, exec (.b 4) State.reset = .next t :=
  ⟨rfl, by decide, _, rfl⟩
theorem test_hyp_FloatStatus_fadd : writesFlag (.faddS 1 2 3) = false ∧ writesFcsrField (.faddS 1 2 3) = false ∧
    ∃ t, exec (.faddS 1 2 3) State.reset = .next t := ⟨rfl, rfl, next_of (by decide)⟩
theorem test_hyp_FloatStatus_fmov : writesFcsrField (.fmovD 1 2) = false ∧ runsR233 (.fmovD 1 2) = false ∧
    ∃ t, exec (.fmovD 1 2) State.reset = .next t := ⟨rfl, rfl, _, rfl⟩
theorem test_hyp_IntegerIgnoresFloatState : integerOnly (.scW 3 4 0) = true := rfl
theorem test_hyp_PrivilegeCheck : privileged .ertn = true ∧ (user State.reset).plv = .plv3 ∧ State.reset.plv = .plv0 ∧
    privileged (.faddS 1 2 3) = false := ⟨rfl, rfl, rfl, rfl⟩
theorem test_hyp_StoresJoinDirty_store : storeRange (.stW 3 4 0) dataStart = some (0x1000, 4) ∧
    ∃ t, exec (.stW 3 4 0) dataStart = .next t := ⟨by decide, next_of (by decide)⟩
theorem test_hyp_StoresJoinDirty_sc : storeRange (.scW 3 4 0) scStart = some (0x1004, 4) ∧
    ∃ t, exec (.scW 3 4 0) scStart = .next t := ⟨by decide, next_of (by decide)⟩
theorem test_hyp_StoresJoinDirty_none : storeRange (.ibar 0) dataStart = none ∧ storeRange (.scW 3 4 0) dataStart = none ∧
    (∃ t, exec (.ibar 0) dataStart = .next t) ∧ ∃ t, exec (.scW 3 4 0) dataStart = .next t :=
  ⟨rfl, by decide, ⟨_, rfl⟩, next_of (by decide)⟩
theorem test_hyp_StoresJoinDirty_fetch : (atPc 0x2000 (marked State.reset)).pc.toNat % 4 = 0 ∧
    (∀ k, k < 4 → mapped (0x2000#32 + BitVec.ofNat 32 k) (marked State.reset) = true) ∧
    (0x2000#32 + BitVec.ofNat 32 0).toNat ∈ (marked State.reset).dirty := by decide

/-- The state after `st.w r3, r4, 0` at 0x1000. -/
def stored : State := advance (memWrite 4 0x1000 0 dataStart)
theorem test_hyp_MixedWidthReads : exec (.stW 3 4 0) dataStart = .next stored ∧
    vaddr12 4 3 stored = vaddr12 4 0 dataStart + BitVec.ofNat 32 3 ∧
    vaddr12 4 2 stored = vaddr12 4 0 dataStart + BitVec.ofNat 32 (2 * 1) := ⟨rfl, by decide, by decide⟩
theorem test_hyp_Division : readGpr 1 State.reset = 0 ∧ readGpr 4 dataStart ≠ 0 := by decide
theorem test_hyp_Branches : (0x1BFE0000#32 = State.reset.pc + BitVec.ofInt 32 (4 * (0x8000#16).toInt)) ∧
    (0x1BC00000#32 = State.reset.pc + BitVec.ofInt 32 (4 * (0x100000#21).toInt)) := by decide

-- Accesses: a misaligned address, an aligned one with a byte outside MEM_MAP, an aligned one inside, at the ends of MEM_MAP.
theorem test_hyp_Access_misaligned : (0x1001#32).toNat % 2 ≠ 0 ∧ (0x1002#32).toNat % 4 ≠ 0 ∧ (0x1004#32).toNat % 8 ≠ 0 := by decide
theorem test_hyp_Access_unmapped : (0x1008#32).toNat % 8 = 0 ∧ mapped (0x1008#32 + BitVec.ofNat 32 0) dataStart = false ∧
    (0xFFC#32).toNat % 4 = 0 ∧ mapped (0xFFC#32 + BitVec.ofNat 32 3) dataStart = false := by decide
theorem test_hyp_Access_mapped : (0x1000#32).toNat % 8 = 0 ∧ (∀ k, k < 8 → mapped (0x1000#32 + BitVec.ofNat 32 k) dataStart = true) ∧
    (0x1004#32).toNat % 4 = 0 ∧ (∀ k, k < 4 → mapped (0x1004#32 + BitVec.ofNat 32 k) dataStart = true) ∧
    (0x1006#32).toNat % 2 = 0 ∧ (∀ k, k < 2 → mapped (0x1006#32 + BitVec.ofNat 32 k) dataStart = true) ∧
    (0x1007#32).toNat % 1 = 0 ∧ (∀ k, k < 1 → mapped (0x1007#32 + BitVec.ofNat 32 k) dataStart = true) := by decide
theorem test_hyp_Load_address : (0x800#32 = readGpr 4 dataStart + (0x800#12).signExtend 32) ∧
    (0x17FF#32 = readGpr 4 dataStart + (0x7FF#12).signExtend 32) := by decide
theorem test_hyp_Link_address : (0xFFFF9000#32 = readGpr 4 dataStart + BitVec.ofInt 32 (4 * (0x2000#14).toInt)) ∧
    (0x8FFC#32 = readGpr 4 dataStart + BitVec.ofInt 32 (4 * (0x1FFF#14).toInt)) := by decide
theorem test_hyp_StoreConditional : scStart.llbit = true ∧ dataStart.llbit = false := by decide

-- The ends of R233: for each operation, operands and enables that trap and that complete.
/-- 1.0 in f2 and 3.0 in f3, with the given fcsr0. -/
def thirds (enable : Word) : State := fcsr enable (fpr 2 0x3F800000 (fpr 3 0x40400000 State.reset))
/-- A signaling NaN in f2. -/
def signaling (enable : Word) : State := fcsr enable (fpr 2 0x7FA00000 State.reset)
theorem test_hyp_Arithmetic_single :
    (fpDiv .single (fpEnv (thirds 1)) 0x3F800000 0x40400000).exc &&& enables (thirds 1) ≠ 0 ∧
    (fpDiv .single (fpEnv (thirds 0)) 0x3F800000 0x40400000).exc &&& enables (thirds 0) = 0 ∧
    (fpAdd .single (fpEnv (signaling 16)) 0x7FA00000 0).exc &&& enables (signaling 16) ≠ 0 ∧
    (fpMul .single (fpEnv (signaling 15)) 0x7FA00000 0).exc &&& enables (signaling 15) = 0 := by decide
theorem test_hyp_Arithmetic_double :
    (fpSub .double (fpEnv (signaling 16)) 0x7FF4000000000000 0).exc &&& enables (signaling 16) ≠ 0 ∧
    (fpSub .double (fpEnv (signaling 31)) 0x3FF0000000000000 0).exc &&& enables (signaling 31) = 0 := by decide +kernel
theorem test_hyp_Fused :
    (fpFma .fmadd .single (fpEnv (signaling 16)) false 0x7FA00000 0 0).exc &&& enables (signaling 16) ≠ 0 ∧
    (fpFma .fnmsub .single (fpEnv (signaling 31)) true 0x3F800000 0x3F800000 0x3F800000).exc &&& enables (signaling 31) = 0 := by
  decide
theorem test_hyp_MaxMin :
    (fpMaxMin .maxNum .single false false 0x7FA00000 0).exc &&& enables (signaling 16) ≠ 0 ∧
    (fpMaxMin .minNumMag .single true true 0x3F800000 0).exc &&& enables (signaling 31) = 0 := by decide
theorem test_hyp_RootAndReciprocal :
    (fpSqrt .single (fpEnv (signaling 16)) 0xBF800000).exc &&& enables (signaling 16) ≠ 0 ∧
    (fpSqrt .single (fpEnv (signaling 31)) 0x40800000).exc &&& enables (signaling 31) = 0 ∧
    (fpSqrt .single (fpEnv (signaling 31)) 0x40800000).res = .bits 0x40000000 ∧
    (fpSqrt .double (fpEnv (signaling 31)) 0x4010000000000000).res = .bits 0x4000000000000000 ∧
    (fpSqrt .single (fpEnv (signaling 31)) 0xBF800000).res = .quietNan ∧
    (fpSqrt .double (fpEnv (signaling 31)) 0xBFF0000000000000).res = .quietNan := by decide +kernel
theorem test_hyp_Conversions :
    (fpConvert .double .single (fpEnv (signaling 16)) 0x7FA00000).exc &&& enables (signaling 16) ≠ 0 ∧
    (fpFromInt .single (fpEnv (thirds 1)) 16777217).exc &&& enables (thirds 1) ≠ 0 ∧
    (fpFromInt .single (fpEnv (thirds 31)) 16777216).exc &&& enables (thirds 31) = 0 := by decide
theorem test_hyp_IntegerConversions :
    (toSint32 .single .rz 0x7FA00000).2 &&& enables (signaling 16) ≠ 0 ∧
    (toSint32 .single .rm 0xC0200000).2 &&& enables (thirds 30) = 0 := by decide
theorem test_hyp_Compare_listed : fcmpCondition 0x19 = some ([.un, .gt, .lt], true) := by decide
theorem test_hyp_Compare_unlisted : 0x12#5 ∈ [0x12#5, 0x13#5, 0x16#5, 0x17#5, 0x1A#5, 0x1B#5, 0x1C#5, 0x1D#5, 0x1E#5, 0x1F#5] := by
  decide
theorem test_hyp_Fcsr : 3 < (4#5).toNat ∧
    ((3#5).toNat, 0x00000300#32) ∈ [(0, 0x1F1F031F#32), (1, 0x0000001F#32), (2, 0x1F1F0000#32), (3, 0x00000300#32)] := by decide

-- Values: the bit patterns of 1, -2, 0, infinities and NaNs.
theorem test_hyp_value_one : valueOf .single 0x3F800000 = some 1 := by
  rw [valueOf, show unpack .single 0x3F800000 = .fin false 8388608 (-23) by decide]; norm_num [finiteValue]
theorem test_hyp_value_minus_two : valueOf .single 0xC0000000 = some (-2) := by
  rw [valueOf, show unpack .single 0xC0000000 = .fin true 8388608 (-22) by decide]; norm_num [finiteValue]
theorem test_hyp_value_zero : valueOf .single 0 = some 0 := by
  rw [valueOf, show unpack .single 0 = .fin false 0 (-149) by decide]; norm_num [finiteValue]
theorem test_hyp_value_double : valueOf .double 0x3FF0000000000000 = some 1 := by
  rw [valueOf, show unpack .double 0x3FF0000000000000 = .fin false 4503599627370496 (-52) by decide]; norm_num [finiteValue]
theorem test_hyp_value_none : valueOf .single 0x7F800000 = none ∧ valueOf .single 0x7FC00000 = none := by decide
theorem test_hyp_infinities : unpack .single 0x7F800000 = .inf false ∧ unpack .single 0xFF800000 = .inf true ∧
    unpack .double 0x7FF0000000000000 = .inf false := by decide
theorem test_hyp_nans : unpack .single 0x7FC00000 = .nan false ∧ unpack .single 0x7FA00000 = .nan true ∧
    (unpack .single 0x3F800000).isNan = false := by decide
theorem test_hyp_products : exactProduct (unpack .single 0x7F800000) (unpack .single 0xC0000000) = some (.inf true) ∧
    exactProduct (unpack .single 0x3F800000) (unpack .single 0xC0000000) ≠ none ∧ true ≠ (false != false) := by decide
/-- Sums, products and quotients of 1 and -2 are not 0; 1 and 1 have difference 0. -/
theorem test_hyp_exactValues : (1 + -2 : ℚ) ≠ 0 ∧ (1 - -2 : ℚ) ≠ 0 ∧ (1 * -2 : ℚ) ≠ 0 ∧ (1 * -2 + 1 : ℚ) ≠ 0 ∧
    (1 * -2 - 1 : ℚ) ≠ 0 ∧ (1 - 1 : ℚ) = 0 ∧ (1 * 1 - 1 : ℚ) = 0 ∧ (1 * -2 + 2 : ℚ) = 0 := by norm_num
theorem test_hyp_Rounding : (3 : Nat) ≠ 0 := by decide
/-- An infinite product with a finite addend, and a finite product with an infinite addend. -/
theorem test_hyp_fusedInfinities : unpack .single 0x7F800000 = .inf false ∧
    (∀ u ∈ [0x7F800000#64, 0xC0000000#64], (unpack .single u).isNan = false ∧ valueOf .single u ≠ some 0) ∧
    valueOf .single 0x3F800000 ≠ none ∧ unpack .single 0xFF800000 = .inf ((false != true) != false) := by
  refine ⟨by decide, ?_, by rw [test_hyp_value_one]; simp, by decide⟩
  intro u hu
  simp only [List.mem_cons, List.not_mem_nil, or_false] at hu
  obtain rfl | rfl := hu
  · exact ⟨by decide, fun h => by cases test_hyp_value_none.1.symm.trans h⟩
  · exact ⟨by decide, fun h => by have := test_hyp_value_minus_two.symm.trans h; norm_num at this⟩
theorem test_hyp_FiniteOperation (env : FpEnv) : FiniteOperation .single env (1 * -2) (fpMul .single env 0x3F800000 0xC0000000) :=
  .product _ _ _ _ test_hyp_value_one test_hyp_value_minus_two
/-- The boundaries of binary32: 2^128 and the tie below it overflow to the nearest, the largest finite number does not and so
does the tie not toward zero; 2^-126 is not tiny and 2^-149 is. -/
theorem test_hyp_Overflows : Overflows .single .rne (2 ^ 128) ∧ Overflows .single .rne (2 ^ 128 - 2 ^ 103) ∧
    ¬Overflows .single .rne (2 ^ 128 - 2 ^ 104) ∧ ¬Overflows .single .rz (2 ^ 128 - 2 ^ 103) := by
  simp only [Overflows, RoundsUpTo, overflowBound, topQuantum, layout, minQuantum]
  refine ⟨?_, ?_, ?_, ?_⟩ <;> rw [abs_of_pos (by norm_num)] <;> norm_num
theorem test_hyp_OverflowAndUnderflow :
    overflowBound .single ≤ |finiteValue false 1 128| ∧ |finiteValue false 16777215 104| ≤ maxFinite .single ∧
    minNormal .single ≤ |finiteValue true 1 (-126)| ∧
    |finiteValue false 1 (-149)| ≤ (2 ^ ((layout .single).fracBits + 1) - 1) * (2 : ℚ) ^ (minQuantum .single - 1) := by
  simp only [overflowBound, maxFinite, topQuantum, layout, minQuantum, minNormal, finiteValue]; norm_num
theorem test_hyp_RoundingModeIgnored : readsRounding (.fcvtDS 1 2) = false ∧ readsRounding (.fmaxS 1 2 3) = false := by decide
/-- The NaN that FCVT.D.S gives is the same one in every mode (R296). -/
theorem test_fcvtDS_nan_ignores_rm :
    (fpConvert .double .single ⟨.rne, false⟩ 0x7FC00000).value .convertFormat .double 0 0x7FC00000 0 0 =
      (fpConvert .double .single ⟨.rz, false⟩ 0x7FC00000).value .convertFormat .double 1 0x7FC00000 0 0 := rfl
theorem test_hyp_ConversionsAreExact : (-2 ^ 31 : Int) ≤ -2 ^ 31 ∧ (-2 ^ 31 : Int) < 2 ^ 31 ∧ (-2 ^ 31 : Int) ≠ 0 := by decide
theorem test_hyp_ToInteger : ((-2 : ℚ) = (-2 : Int)) ∧ (-2 ^ 31 : Int) ≤ -2 ∧ (-2 : Int) ≤ 2 ^ 31 - 1 ∧
    valueOf .single 0x4F000000 = some (2 ^ 31) ∧ (2 ^ 31 - 1 : Int) < 2 ^ 31 :=
  ⟨by norm_num, by decide, by decide,
    by rw [valueOf, show unpack .single 0x4F000000 = .fin false 8388608 8 by decide]; norm_num [finiteValue], by decide⟩

end Sys2Proof.Tests
end

section
/-! PROOFS. What every completed instruction leaves (10_state.md): the named updates it may make, kept apart from the pc, are said
once in `exec_next`; the invariants of the state are then one short induction over the updates each. -/

namespace Sys2Proof.Machine

/-! ### The updates an instruction may make -/

/-- `t` is `s` after named updates that leave the pc alone, each one of an instruction of `i`'s kind: only some instructions write
a condition flag or a field of fcsr0 (10_state.md R35, R44), and only the bytes of MEM_MAP are stored to (20_memory.md R61). -/
inductive Updates (i : Instr) (s : State) : State → Prop
  | refl : Updates i s s
  | gpr (rd : RegNo) (v : Word) {t : State} : Updates i s t → Updates i s (writeGpr rd v t)
  | draw {t : State} : Updates i s t → Updates i s (drawn t)
  | fpr (fd : FprNo) (v : Fpr) {t : State} : Updates i s t → Updates i s (setFpr fd v t)
  | llbit (b : Bool) {t : State} : Updates i s t → Updates i s (setLlbit b t)
  | store (v : Nat) {n : Nat} {a : Word} {t : State} (hn : n ≤ 8) (hmap : mappedRange n a t = true) :
      Updates i s t → Updates i s (memWrite n a v t)
  | clean {t : State} : Updates i s t → Updates i s { t with dirty := [] }
  | flag (cd : CfNo) (b : Bool) {t : State} (hi : writesFlag i = true) : Updates i s t → Updates i s (writeFcc cd b t)
  | fcsr (v : Word) {mask : Word} {t : State} (hi : writesFcsrField i = true) (hmask : mask &&& ~~~fcsrWritable = 0) :
      Updates i s t → Updates i s (writeFcsr mask v t)
  | exceptions (exc : FpExc) {t : State} (hi : runsR233 i = true) :
      Updates i s t → Updates i s (accumulateFlags exc (setCause exc t))

/-- How a completed instruction ends: it advances the pc, or it is a branch or jump, whose target but for JIRL is a multiple of 4
away from the pc (43_branch.md R160, R173). -/
inductive Completion (i : Instr) (s : State) : State → Prop
  | advances {t : State} (hi : assignsPc i = false) : Updates i s t → Completion i s (advance t)
  | branches {t : State} {target : Word} (hi : assignsPc i = true)
      (ht : isJirl i = false → ∃ offset : Word, offset.toNat % 4 = 0 ∧ target = s.pc + offset) :
      Updates i s t → Completion i s (jump target t)

section Updates
variable {i : Instr} {s t : State}

theorem Updates.fprLow (fd : FprNo) (v : Word) (h : Updates i s t) : Updates i s (writeFprLow fd v t) := .draw (.fpr _ _ h)
theorem Updates.fprAll (fd : FprNo) (v : DWord) (h : Updates i s t) : Updates i s (writeFpr fd v t) := .fpr _ _ h
theorem Updates.fprHigh (fd : FprNo) (v : Word) (h : Updates i s t) : Updates i s (writeFprHigh fd v t) := .fpr _ _ h

/-! ### What the updates keep -/

theorem Updates.pc_eq (h : Updates i s t) : t.pc = s.pc := by
  induction h with
  | refl => rfl
  | _ => simp [*]

/-- The privilege level and MEM_MAP are constant over a run (10_state.md R29, 20_memory.md R61). -/
theorem Updates.mode (h : Updates i s t) : t.plv = s.plv ∧ t.memMap = s.memMap := by
  induction h with
  | refl => exact ⟨rfl, rfl⟩
  | _ => simp [*]

/-- Only the writers of a condition flag change one (10_state.md R35). -/
theorem Updates.fcc_eq (hi : writesFlag i = false) (h : Updates i s t) : t.fcc = s.fcc := by
  induction h with
  | refl => rfl
  | flag _ _ hw => simp [hi] at hw
  | _ => simp [*]

/-- Only MOVGR2FCSR and the instructions of R233 change fcsr0 (10_state.md R44). -/
theorem Updates.fcsr0_eq (hf : writesFcsrField i = false) (hr : runsR233 i = false) (h : Updates i s t) :
    t.fcsr0 = s.fcsr0 := by
  induction h with
  | refl => rfl
  | fcsr _ hw => simp [hf] at hw
  | exceptions _ hw => simp [hr] at hw
  | _ => simp [*]

end Updates

/-- Enables and RM as before, and Flags with no bit lost (10_state.md R40, R44). -/
def StatusGrows (s t : State) : Prop :=
  enables t = enables s ∧ roundingBits t = roundingBits s ∧ flagsField s &&& flagsField t = flagsField s

theorem statusGrows_refl (s : State) : StatusGrows s s := ⟨rfl, rfl, BitVec.and_self⟩

theorem StatusGrows.congr {s t u : State} (h : StatusGrows s t) (hu : u.fcsr0 = t.fcsr0) : StatusGrows s u := by
  simpa [StatusGrows, enables, roundingBits, flagsField, hu] using h

theorem StatusGrows.accumulate {s t : State} (h : StatusGrows s t) (exc : FpExc) :
    StatusGrows s (accumulateFlags exc (setCause exc t)) := by
  obtain ⟨hen, hrm, hfl⟩ := h
  obtain ⟨-, hfl', hen', hrm', -⟩ := fcsrAfter_accumulate exc t
  refine ⟨hen'.trans hen, hrm'.trans hrm, ?_⟩
  rw [hfl', ← hfl]
  ext k hk
  simp only [BitVec.getElem_and, BitVec.getElem_or]
  cases (flagsField s)[k] <;> cases (flagsField t)[k] <;> simp

theorem Updates.statusGrows {i : Instr} {s t : State} (hf : writesFcsrField i = false) (h : Updates i s t) :
    StatusGrows s t := by
  induction h with
  | refl => exact statusGrows_refl s
  | fcsr _ hw => simp [hf] at hw
  | exceptions exc _ _ ih => exact ih.accumulate exc
  | _ => exact StatusGrows.congr ‹_› (by simp)

/-! ### The invariant under the updates -/

/-- The invariant depends on x, fcsr0, memory, MEM_MAP and `dirty` alone. -/
theorem Inv.congr {s t : State} (h : Inv s) (hx : t.x = s.x) (hf : t.fcsr0 = s.fcsr0) (hm : t.mem = s.mem)
    (hmap : t.memMap = s.memMap) (hd : t.dirty = s.dirty) : Inv t where
  zeroRegister := by rw [hx]; exact h.zeroRegister
  reservedBits := by rw [hf]; exact h.reservedBits
  memory := by rw [hm]; exact h.memory
  dirtySorted := by rw [hd]; exact h.dirtySorted
  dirtyMapped := by
    rw [hd]
    exact fun a ha => ⟨(h.dirtyMapped a ha).1, (mapped_congr hmap _).trans (h.dirtyMapped a ha).2⟩

/-- A change of fcsr0 alone keeps the invariant if the reserved bits stay 0. -/
theorem Inv.withFcsr {s : State} (h : Inv s) {v : Word} (hv : v &&& ~~~fcsrWritable = 0) : Inv { s with fcsr0 := v } where
  zeroRegister := h.zeroRegister
  reservedBits := hv
  memory := h.memory
  dirtySorted := h.dirtySorted
  dirtyMapped := h.dirtyMapped

theorem inv_writeGpr {s : State} (rd : RegNo) (v : Word) (h : Inv s) : Inv (writeGpr rd v s) := by
  by_cases hd : rd = 0
  · exact h.congr (by simp [hd]) (by simp) (by simp) (by simp) (by simp)
  · have hn : rd.toNat ≠ 0 := fun e => hd (BitVec.eq_of_toNat_eq e)
    rw [writeGpr, if_neg hd]
    exact ⟨(Vector.getElem_set_ne rd.isLt (by decide) hn).trans h.zeroRegister, h.reservedBits, h.memory, h.dirtySorted,
      h.dirtyMapped⟩

/-- A store keeps `dirty` a set of addresses of MEM_MAP, for it writes inside MEM_MAP (20_memory.md R77, R80). -/
theorem inv_memWrite {s : State} {n : Nat} {a : Word} (v : Nat) (hn : n ≤ 8) (hmap : mappedRange n a s = true) (h : Inv s) :
    Inv (memWrite n a v s) where
  zeroRegister := h.zeroRegister
  reservedBits := h.reservedBits
  memory := wf_write h.memory n a v
  dirtySorted := pairwise_markDirty h.dirtySorted n a
  dirtyMapped := by
    intro x hx
    have hlt : x < 2 ^ 32 := lt_of_mem_markDirty (fun y hy => (h.dirtyMapped y hy).1) x hx
    have hnat : (BitVec.ofNat 32 x).toNat = x := by rw [BitVec.toNat_ofNat, Nat.mod_eq_of_lt hlt]
    refine ⟨hlt, (mapped_congr (s := s) (memWrite_memMap n a v s) _).trans ?_⟩
    rw [memWrite_dirty, ← hnat, mem_markDirty n (by omega)] at hx
    rcases hx with hold | hnew
    · rw [hnat] at hold
      exact (h.dirtyMapped x hold).2
    · exact (mappedRange_iff n (by omega) a s).1 hmap _ hnew

theorem inv_clean {s : State} (h : Inv s) : Inv { s with dirty := [] } where
  zeroRegister := h.zeroRegister
  reservedBits := h.reservedBits
  memory := h.memory
  dirtySorted := .nil
  dirtyMapped := fun _ ha => nomatch ha

/-- A masked write of FCSRn touches no reserved bit (10_state.md R42, R43). -/
theorem inv_writeFcsr {s : State} {mask : Word} (v : Word) (hmask : mask &&& ~~~fcsrWritable = 0) (h : Inv s) :
    Inv (writeFcsr mask v s) := by
  refine h.withFcsr ?_
  have hdistrib : ((s.fcsr0 &&& ~~~mask) ||| (v &&& mask)) &&& ~~~fcsrWritable =
      ((s.fcsr0 &&& ~~~fcsrWritable) &&& ~~~mask) ||| (v &&& (mask &&& ~~~fcsrWritable)) := by
    rw [BitVec.and_or_distrib_right]
    ac_rfl
  rw [hdistrib, h.reservedBits, hmask]
  simp

theorem inv_exceptions {s : State} (exc : FpExc) (h : Inv s) : Inv (accumulateFlags exc (setCause exc s)) := by
  obtain ⟨-, -, -, -, hreserved⟩ := fcsrAfter_accumulate exc s
  exact h.withFcsr (hreserved.trans h.reservedBits)

theorem Updates.inv {i : Instr} {s t : State} (h : Updates i s t) (hs : Inv s) : Inv t := by
  induction h with
  | refl => exact hs
  | gpr rd v _ ih => exact inv_writeGpr rd v ih
  | store v hn hmap _ ih => exact inv_memWrite v hn hmap ih
  | clean _ ih => exact inv_clean ih
  | fcsr v _ hmask _ ih => exact inv_writeFcsr v hmask ih
  | exceptions exc _ _ ih => exact inv_exceptions exc ih
  | draw _ ih | fpr _ _ _ ih | llbit _ _ ih | flag _ _ _ _ ih => exact ih.congr rfl rfl rfl rfl rfl

/-! ### The offsets of branches -/

/-- An offset `{imm, 2'b0}`, sign-extended, has its low two bits 0 (43_branch.md R160). -/
theorem extractLow_offset {n : Nat} (imm : BitVec n) :
    ((imm ++ 0#2 : BitVec (n + 2)).signExtend 32).extractLsb' 0 2 = 0 := by
  ext k hk
  have hlow : 0 + k < 2 := by omega
  rw [BitVec.getElem_extractLsb', BitVec.getLsbD_signExtend, if_pos (by omega), BitVec.getLsbD_append, if_pos hlow]
  simp

theorem toNat_extractLow (w : Word) : (w.extractLsb' 0 2).toNat = w.toNat % 4 := by
  rw [BitVec.extractLsb'_toNat, Nat.shiftRight_zero]

/-- An offset `{imm, 2'b0}`, sign-extended, is a multiple of 4 (43_branch.md R160). -/
theorem offset_aligned {n : Nat} (imm : BitVec n) :
    ((imm ++ 0#2 : BitVec (n + 2)).signExtend 32).toNat % 4 = 0 := by
  rw [← toNat_extractLow, extractLow_offset]; rfl

/-! ### How each shape of a meaning completes -/

section Completion
variable {i : Instr} {s t : State}

theorem completion_of_updates {u : State} (hi : assignsPc i = false) (hu : Updates i s u)
    (h : (Host.Outcome.next (advance u) : Out) = .next t) : Completion i s t := by
  cases h
  exact .advances hi hu

theorem completion_gprResult {rd : RegNo} {v : Word} (hi : assignsPc i = false) (h : gprResult rd v s = .next t) :
    Completion i s t := completion_of_updates hi (.gpr rd v .refl) h

theorem completion_gprDraw {rd : RegNo} (hi : assignsPc i = false) (h : gprDraw rd s = .next t) : Completion i s t :=
  completion_of_updates hi (.draw (.gpr rd _ .refl)) h

theorem completion_divisionResult {rd rk : RegNo} {v : Int} (hi : assignsPc i = false)
    (h : divisionResult rd rk v s = .next t) : Completion i s t := by
  unfold divisionResult at h
  split at h
  · exact completion_gprDraw hi h
  · exact completion_gprResult hi h

theorem completion_branchIf {taken : Bool} {offset : Word} (hi : assignsPc i = true) (ho : offset.toNat % 4 = 0)
    (h : branchIf taken offset s = .next t) : Completion i s t := by
  cases taken <;> cases h
  · exact .branches hi (fun _ => ⟨4, rfl, rfl⟩) .refl
  · exact .branches hi (fun _ => ⟨offset, ho, rfl⟩) .refl

theorem completion_loadAccess {n : Nat} {a : Word} {write : Nat → State → State} (hi : assignsPc i = false)
    (hw : ∀ v, Updates i s (write v s)) (h : loadAccess n a write s = .next t) : Completion i s t := by
  obtain ⟨-, -, hdone⟩ := guardAccess_next h
  exact completion_of_updates hi (hw _) hdone

theorem completion_loadGpr {n : Nat} {a : Word} {rd : RegNo} {value : Nat → Word} (hi : assignsPc i = false)
    (h : loadAccess n a (fun v => writeGpr rd (value v)) s = .next t) : Completion i s t :=
  completion_loadAccess hi (fun v => .gpr rd (value v) .refl) h

theorem completion_storeAccess {n : Nat} {a : Word} {v : Nat} (hi : assignsPc i = false) (hn : n ≤ 8)
    (h : storeAccess n a v s = .next t) : Completion i s t := by
  obtain ⟨-, hmap, hdone⟩ := guardAccess_next h
  exact completion_of_updates hi (.store v hn hmap .refl) hdone

theorem completion_scW {rd rj : RegNo} {si14 : BitVec 14} (hi : assignsPc i = false)
    (h : execScW rd rj si14 s = .next t) : Completion i s t := by
  obtain ⟨-, hmap, hdone⟩ := guardAccess_next h
  refine completion_of_updates hi (.llbit false ?_) hdone
  split
  · exact .gpr rd 1 (.store _ (by decide) hmap .refl)
  · exact .gpr rd 0 .refl

theorem completion_fpFinish {exc : FpExc} {write : State → State} (hi : assignsPc i = false) (hr : runsR233 i = true)
    (hw : ∀ u, Updates i s u → Updates i s (write u)) (h : fpFinish exc write s = .next t) : Completion i s t := by
  unfold fpFinish at h
  split at h
  · cases h
  · exact completion_of_updates hi (hw _ (.exceptions exc hr .refl)) h

theorem completion_fpLow {exc : FpExc} {fd : FprNo} {v : Word} (hi : assignsPc i = false) (hr : runsR233 i = true)
    (h : fpFinish exc (writeFprLow fd v) s = .next t) : Completion i s t :=
  completion_fpFinish hi hr (fun _ => .fprLow fd v) h

theorem completion_fpAll {exc : FpExc} {fd : FprNo} {v : DWord} (hi : assignsPc i = false) (hr : runsR233 i = true)
    (h : fpFinish exc (writeFpr fd v) s = .next t) : Completion i s t :=
  completion_fpFinish hi hr (fun _ => .fprAll fd v) h

theorem completion_fcmp {cond : BitVec 5} {cd : CfNo} {a b : FpValue} (hi : assignsPc i = false) (hr : runsR233 i = true)
    (hf : writesFlag i = true) (h : fcmp cond cd a b s = .next t) : Completion i s t := by
  unfold fcmp at h
  split at h
  · cases h
  · exact completion_fpFinish hi hr (fun _ => .flag cd _ hf) h

theorem fcsrMask_writable {n : BitVec 5} {mask : Word} (h : fcsrMask n = some mask) : mask &&& ~~~fcsrWritable = 0 := by
  unfold fcsrMask at h
  split at h <;> cases h <;> decide

theorem completion_movgr2fcsr {fcsr : BitVec 5} {rj : RegNo} (hi : assignsPc i = false) (hf : writesFcsrField i = true)
    (h : execMovgr2fcsr fcsr rj s = .next t) : Completion i s t := by
  unfold execMovgr2fcsr at h
  split at h
  · next mask hmask => exact completion_of_updates hi (.fcsr _ hf (fcsrMask_writable hmask) .refl) h
  · cases h

theorem completion_movfcsr2gr {rd : RegNo} {fcsr : BitVec 5} (hi : assignsPc i = false)
    (h : execMovfcsr2gr rd fcsr s = .next t) : Completion i s t := by
  unfold execMovfcsr2gr at h
  split at h
  · exact completion_gprResult hi h
  · cases h

theorem privilegedOnly_not_next {j : Instr} (h : privilegedOnly j s = .next t) : False := by
  unfold privilegedOnly at h
  split at h <;> cases h

end Completion

/-- How every instruction completes, by the shape of its meaning. -/
theorem exec_next {i : Instr} {s t : State} (h : exec i s = .next t) : Completion i s t := by
  cases i with
  | addW | subW | slt | sltu | nor | and | or | xor | slti | sltui | addiW | andi | ori | xori | lu12iW | pcaddu12i | nop
  | mulW | mulhW | mulhWu | sllW | srlW | sraW | slliW | srliW | sraiW | rdcntid | movfr2grS | movfrh2grS | movcf2gr =>
    exact completion_gprResult rfl h
  | divW | modW | divWu | modWu => exact completion_divisionResult rfl h
  | rdcntvlW | rdcntvhW => exact completion_gprDraw rfl h
  | beq | bne | blt | bge | bltu | bgeu | bceqz | bcnez => exact completion_branchIf rfl (offset_aligned _) h
  | b offs26 => cases h; exact .branches rfl (fun _ => ⟨_, offset_aligned offs26, rfl⟩) .refl
  | bl offs26 => cases h; exact .branches rfl (fun _ => ⟨_, offset_aligned offs26, rfl⟩) (.gpr _ _ .refl)
  | jirl rd rj offs16 => cases h; exact .branches rfl (fun hj => nomatch hj) (.gpr _ _ .refl)
  | ldB => exact completion_loadGpr (value := fun v => (BitVec.ofNat 8 v).signExtend 32) rfl h
  | ldH => exact completion_loadGpr (value := fun v => (BitVec.ofNat 16 v).signExtend 32) rfl h
  | ldW => exact completion_loadGpr (value := BitVec.ofNat 32) rfl h
  | ldBu => exact completion_loadGpr (value := fun v => (BitVec.ofNat 8 v).setWidth 32) rfl h
  | ldHu => exact completion_loadGpr (value := fun v => (BitVec.ofNat 16 v).setWidth 32) rfl h
  | llW rd =>
    exact completion_loadAccess (write := fun v u => setLlbit true (writeGpr rd (BitVec.ofNat 32 v) u)) rfl
      (fun _ => .llbit true (.gpr rd _ .refl)) h
  | fldS fd =>
    exact completion_loadAccess (write := fun v => writeFprLow fd (BitVec.ofNat 32 v)) rfl (fun _ => .fprLow fd _ .refl) h
  | fldD fd =>
    exact completion_loadAccess (write := fun v => writeFpr fd (BitVec.ofNat 64 v)) rfl (fun _ => .fprAll fd _ .refl) h
  | stB | stH | stW | fstS | fstD => exact completion_storeAccess rfl (by decide) h
  | scW => exact completion_scW rfl h
  | preld | dbar => exact completion_of_updates rfl .refl h
  | ibar => exact completion_of_updates rfl (.clean .refl) h
  | brk | syscall | cacop => cases h
  | csrrd | csrwr | csrxchg | tlbsrch | tlbrd | tlbwr | tlbfill | ertn | idle | invtlb =>
    exact (privilegedOnly_not_next h).elim
  | faddS | fsubS | fmulS | fdivS | fmaxS | fminS | fmaxaS | fminaS | fsqrtS | frecipS | frsqrtS | fmaddS | fmsubS | fnmaddS
  | fnmsubS | fcvtSD | ffintSW | ftintrmWS | ftintrmWD | ftintrpWS | ftintrpWD | ftintrzWS | ftintrzWD | ftintrneWS
  | ftintrneWD | ftintWS | ftintWD => exact completion_fpLow rfl rfl h
  | faddD | fsubD | fmulD | fdivD | fmaxD | fminD | fmaxaD | fminaD | fsqrtD | frecipD | frsqrtD | fmaddD | fmsubD | fnmaddD
  | fnmsubD | fcvtDS | ffintDW => exact completion_fpAll rfl rfl h
  | fcmpS | fcmpD => exact completion_fcmp rfl rfl rfl h
  | fcopysignS fd | fabsS fd | fnegS fd | fclassS fd | fmovS fd | movgr2frW fd =>
    exact completion_of_updates rfl (.fprLow fd _ .refl) h
  | fcopysignD fd | fabsD fd | fnegD fd | fclassD fd | fmovD fd | movcf2fr fd | fsel fd =>
    exact completion_of_updates rfl (.fprAll fd _ .refl) h
  | movgr2frhW fd => exact completion_of_updates rfl (.fprHigh fd _ .refl) h
  | movfr2cf cd | movgr2cf cd => exact completion_of_updates rfl (.flag cd _ rfl .refl) h
  | movgr2fcsr => exact completion_movgr2fcsr rfl rfl h
  | movfcsr2gr => exact completion_movfcsr2gr rfl h

/-- Every completed instruction is, but for the pc, an update of the state. -/
theorem Completion.updates {i : Instr} {s t : State} (h : Completion i s t) :
    ∃ u, Updates i s u ∧ t = { u with pc := t.pc } := by
  cases h with
  | advances _ hu => exact ⟨_, hu, rfl⟩
  | branches _ _ hu => exact ⟨_, hu, rfl⟩

/-! ### The step -/

theorem fetch_next {s t : State} {decoded : Word → Out} (h : fetch s decoded = .next t) :
    decoded (instrWordAt s.pc s) = .next t := by
  unfold fetch at h
  split at h
  · cases h
  split at h
  · cases h
  split at h
  · cases h
  · exact h

theorem runWord_next {run : Instr → State → Out} {w : Word} {s t : State} (h : runWord run w s = .next t) :
    ∃ i, decode w = .ok i ∧ run i s = .next t := by
  unfold runWord at h
  split at h
  · next i hi => exact ⟨i, hi, h⟩
  · cases h
  · cases h

/-- A step that ends in a next state ran an instruction, after the boundary (20_memory.md R67). -/
theorem step_next {s t : State} (h : step s = .next t) : ∃ i, exec i (boundary s) = .next t := by
  unfold step fetchAndRun at h
  obtain ⟨i, -, hexec⟩ := runWord_next (fetch_next h)
  exact ⟨i, hexec⟩

theorem inv_boundary {s : State} (h : Inv s) : Inv (boundary s) := h.congr (by simp) (by simp) (by simp) (by simp) (by simp)

/-- Settles O10: every update keeps the invariant, and so do the boundary and a change of the pc. -/
theorem invKeptByStep : Obligations.InvKeptByStep := by
  intro s t hs hstep
  obtain ⟨i, hexec⟩ := step_next hstep
  obtain ⟨u, hu, ht⟩ := (exec_next hexec).updates
  rw [ht]
  exact (hu.inv (inv_boundary hs)).congr rfl rfl rfl rfl rfl

/-- Settles O12: no update touches the privilege level or MEM_MAP. -/
theorem modeIsConstant : Obligations.ModeIsConstant := by
  intro s t hstep
  obtain ⟨i, hexec⟩ := step_next hstep
  obtain ⟨u, hu, ht⟩ := (exec_next hexec).updates
  rw [ht]
  simpa using hu.mode

/-! ### The pc -/

theorem aligned_add {a b : Word} (ha : a.toNat % 4 = 0) (hb : b.toNat % 4 = 0) : (a + b).toNat % 4 = 0 := by
  rw [BitVec.toNat_add]
  omega

/-- Adding a multiple of 4 keeps the low two bits. -/
theorem extractLow_add {a b : Word} (hb : b.toNat % 4 = 0) : (a + b).extractLsb' 0 2 = a.extractLsb' 0 2 := by
  apply BitVec.eq_of_toNat_eq
  rw [toNat_extractLow, toNat_extractLow, BitVec.toNat_add]
  omega

theorem exec_pc_of_not_branch {i : Instr} {s t : State} (h : exec i s = .next t) (hi : assignsPc i = false) :
    t.pc = s.pc + 4 := by
  cases exec_next h with
  | advances _ hu => rw [advance_pc, hu.pc_eq]
  | branches hb => simp [hi] at hb

theorem exec_pc_aligned {i : Instr} {s t : State} (h : exec i s = .next t) (hi : isJirl i = false)
    (hs : s.pc.toNat % 4 = 0) : t.pc.toNat % 4 = 0 := by
  cases exec_next h with
  | advances _ hu => rw [advance_pc, hu.pc_eq]; exact aligned_add hs rfl
  | branches _ htarget _ =>
    obtain ⟨offset, ho, rfl⟩ := htarget hi
    exact aligned_add hs ho

theorem exec_jirl (rd rj : RegNo) (offs16 : BitVec 16) (s : State) : exec (.jirl rd rj offs16) s =
    .next (jump (readGpr rj s + offset16 offs16) (writeGpr rd (s.pc + 4) s)) := rfl

/-- The fetch at a misaligned pc, whatever the boundary does (20_memory.md R67). -/
theorem step_misaligned {s : State} (h : s.pc.extractLsb' 0 2 ≠ 0) : step s = .fault (.adef s.pc (boundary s)) := by
  have hmod : (boundary s).pc.toNat % 4 ≠ 0 := by
    rw [boundary_pc, ← toNat_extractLow]
    exact fun e => h (BitVec.eq_of_toNat_eq e)
  rw [step, fetchAndRun, fetch, if_pos hmod, raise, boundary_pc]

/-- Settles O13: the pc after each way to complete, JIRL's meaning, and the first stage of the fetch. -/
theorem pcAlignment : Obligations.PcAlignment := by
  refine ⟨fun i s t h hi => exec_pc_of_not_branch h hi, fun i s t h hi hs => exec_pc_aligned h hi hs, ?_,
    fun s h => step_misaligned h⟩
  intro rd rj offs16 s
  refine ⟨_, exec_jirl rd rj offs16 s, ?_, extractLow_add (offset_aligned offs16)⟩
  exact fun r => (readGpr_congr (jump_x _ _) r).trans (gprWritten_writeGpr rd _ s r)

/-- Settles O14: what the updates say of the condition flags and of fcsr0. -/
theorem floatStatusChanges : Obligations.FloatStatusChanges := by
  intro i s t hexec
  obtain ⟨u, hu, ht⟩ := (exec_next hexec).updates
  have hfcc : t.fcc = u.fcc := by rw [ht]
  have hfcsr : t.fcsr0 = u.fcsr0 := by rw [ht]
  refine ⟨fun hi c => readFcc_congr (hfcc.trans (hu.fcc_eq hi)) c, fun hi => (hu.statusGrows hi).congr hfcsr,
    fun hf hr => hfcsr.trans (hu.fcsr0_eq hf hr)⟩

/-! ### Integer instructions and floating-point state -/

section FloatBlind
variable (f : Vector Fpr 32) (fcc : Vector Bool 8) (fcsr0 : Word) (s : State)

theorem mappedRange_withFloatState (n : Nat) (a : Word) :
    mappedRange n a (withFloatState f fcc fcsr0 s) = mappedRange n a s :=
  mappedRange_congr (s := s) (t := withFloatState f fcc fcsr0 s) rfl n a

theorem memRead_withFloatState (n : Nat) (a : Word) :
    memRead n a (withFloatState f fcc fcsr0 s) = memRead n a s :=
  memRead_congr (s := s) (t := withFloatState f fcc fcsr0 s) rfl n a

theorem writeGpr_withFloatState (rd : RegNo) (v : Word) :
    writeGpr rd v (withFloatState f fcc fcsr0 s) = withFloatState f fcc fcsr0 (writeGpr rd v s) := by
  unfold writeGpr
  split <;> rfl

theorem gprResult_withFloatState (rd : RegNo) (v : Word) :
    gprResult rd v (withFloatState f fcc fcsr0 s) = onState (withFloatState f fcc fcsr0) (gprResult rd v s) :=
  congrArg (fun u => Host.Outcome.next (advance u)) (writeGpr_withFloatState f fcc fcsr0 s rd v)

theorem gprDraw_withFloatState (rd : RegNo) :
    gprDraw rd (withFloatState f fcc fcsr0 s) = onState (withFloatState f fcc fcsr0) (gprDraw rd s) :=
  congrArg (fun u => Host.Outcome.next (advance (drawn u))) (writeGpr_withFloatState f fcc fcsr0 s rd (draw s))

theorem divisionResult_withFloatState (rd rk : RegNo) (v : Int) :
    divisionResult rd rk v (withFloatState f fcc fcsr0 s) =
      onState (withFloatState f fcc fcsr0) (divisionResult rd rk v s) := by
  have hk : readGpr rk (withFloatState f fcc fcsr0 s) = readGpr rk s := rfl
  unfold divisionResult
  rw [hk]
  split
  · exact gprDraw_withFloatState f fcc fcsr0 s rd
  · exact gprResult_withFloatState f fcc fcsr0 s rd _

theorem branchIf_withFloatState (taken : Bool) (offset : Word) :
    branchIf taken offset (withFloatState f fcc fcsr0 s) =
      onState (withFloatState f fcc fcsr0) (branchIf taken offset s) := by
  cases taken <;> rfl

theorem linkAndJump_withFloatState (r : RegNo) (target : Word) :
    linkAndJump r target (withFloatState f fcc fcsr0 s) =
      onState (withFloatState f fcc fcsr0) (linkAndJump r target s) :=
  congrArg (fun u => Host.Outcome.next (jump target u)) (writeGpr_withFloatState f fcc fcsr0 s r (s.pc + 4))

theorem guardAccess_withFloatState (n : Nat) (a : Word) {access access' : Out}
    (h : access' = onState (withFloatState f fcc fcsr0) access) :
    guardAccess n a (withFloatState f fcc fcsr0 s) access' =
      onState (withFloatState f fcc fcsr0) (guardAccess n a s access) := by
  unfold guardAccess
  rw [mappedRange_withFloatState, h]
  split
  · rfl
  · split <;> rfl

theorem loadAccess_withFloatState (n : Nat) (a : Word) {write : Nat → State → State}
    (hw : ∀ v, write v (withFloatState f fcc fcsr0 s) = withFloatState f fcc fcsr0 (write v s)) :
    loadAccess n a write (withFloatState f fcc fcsr0 s) =
      onState (withFloatState f fcc fcsr0) (loadAccess n a write s) := by
  refine guardAccess_withFloatState f fcc fcsr0 s n a ?_
  rw [memRead_withFloatState, hw]
  rfl

theorem loadGpr_withFloatState (n : Nat) (a : Word) (rd : RegNo) (value : Nat → Word) :
    loadAccess n a (fun v => writeGpr rd (value v)) (withFloatState f fcc fcsr0 s) =
      onState (withFloatState f fcc fcsr0) (loadAccess n a (fun v => writeGpr rd (value v)) s) :=
  loadAccess_withFloatState f fcc fcsr0 s n a fun v => writeGpr_withFloatState f fcc fcsr0 s rd (value v)

theorem execLlW_withFloatState (rd rj : RegNo) (si14 : BitVec 14) :
    execLlW rd rj si14 (withFloatState f fcc fcsr0 s) =
      onState (withFloatState f fcc fcsr0) (execLlW rd rj si14 s) :=
  loadAccess_withFloatState f fcc fcsr0 s 4 (vaddr14 rj si14 s)
    (write := fun v u => setLlbit true (writeGpr rd (BitVec.ofNat 32 v) u))
    fun v => congrArg (setLlbit true) (writeGpr_withFloatState f fcc fcsr0 s rd (BitVec.ofNat 32 v))

theorem storeAccess_withFloatState (n : Nat) (a : Word) (v : Nat) :
    storeAccess n a v (withFloatState f fcc fcsr0 s) =
      onState (withFloatState f fcc fcsr0) (storeAccess n a v s) :=
  guardAccess_withFloatState f fcc fcsr0 s n a rfl

theorem execScW_withFloatState (rd rj : RegNo) (si14 : BitVec 14) :
    execScW rd rj si14 (withFloatState f fcc fcsr0 s) =
      onState (withFloatState f fcc fcsr0) (execScW rd rj si14 s) := by
  have hlink : (withFloatState f fcc fcsr0 s).llbit = s.llbit := rfl
  have hstore : ∀ a v, memWrite 4 a v (withFloatState f fcc fcsr0 s) = withFloatState f fcc fcsr0 (memWrite 4 a v s) :=
    fun _ _ => rfl
  refine guardAccess_withFloatState f fcc fcsr0 s 4 _ ?_
  rw [hlink, hstore, writeGpr_withFloatState, writeGpr_withFloatState]
  split <;> rfl

theorem privilegedOnly_withFloatState (i : Instr) :
    privilegedOnly i (withFloatState f fcc fcsr0 s) =
      onState (withFloatState f fcc fcsr0) (privilegedOnly i s) := by
  have hplv : (withFloatState f fcc fcsr0 s).plv = s.plv := rfl
  unfold privilegedOnly
  rw [hplv]
  split <;> rfl

end FloatBlind

/-- Settles O15: each shape of an integer instruction ends the same way with other floating-point state. -/
theorem integerIgnoresFloatState : Obligations.IntegerIgnoresFloatState := by
  intro i f fcc fcsr0 s hi
  cases i with
  | addW | subW | slt | sltu | nor | and | or | xor | slti | sltui | addiW | andi | ori | xori | lu12iW | pcaddu12i | nop
  | mulW | mulhW | mulhWu | sllW | srlW | sraW | slliW | srliW | sraiW | rdcntid =>
    exact gprResult_withFloatState f fcc fcsr0 s _ _
  | divW | modW | divWu | modWu => exact divisionResult_withFloatState f fcc fcsr0 s _ _ _
  | rdcntvlW | rdcntvhW => exact gprDraw_withFloatState f fcc fcsr0 s _
  | beq | bne | blt | bge | bltu | bgeu => exact branchIf_withFloatState f fcc fcsr0 s _ _
  | b | preld | dbar | ibar | brk | syscall | cacop => rfl
  | bl | jirl => exact linkAndJump_withFloatState f fcc fcsr0 s _ _
  | ldB => exact loadGpr_withFloatState f fcc fcsr0 s _ _ _ fun v => (BitVec.ofNat 8 v).signExtend 32
  | ldH => exact loadGpr_withFloatState f fcc fcsr0 s _ _ _ fun v => (BitVec.ofNat 16 v).signExtend 32
  | ldW => exact loadGpr_withFloatState f fcc fcsr0 s _ _ _ (BitVec.ofNat 32)
  | ldBu => exact loadGpr_withFloatState f fcc fcsr0 s _ _ _ fun v => (BitVec.ofNat 8 v).setWidth 32
  | ldHu => exact loadGpr_withFloatState f fcc fcsr0 s _ _ _ fun v => (BitVec.ofNat 16 v).setWidth 32
  | stB | stH | stW => exact storeAccess_withFloatState f fcc fcsr0 s _ _ _
  | llW => exact execLlW_withFloatState f fcc fcsr0 s _ _ _
  | scW => exact execScW_withFloatState f fcc fcsr0 s _ _ _
  | csrrd | csrwr | csrxchg | tlbsrch | tlbrd | tlbwr | tlbfill | ertn | idle | invtlb =>
    exact privilegedOnly_withFloatState f fcc fcsr0 s _
  | _ => cases hi

end Sys2Proof.Machine
end

section
/-! PROOFS. The word of a decoded instruction is the word it was decoded from (30_encoding.md R104), opcode width by opcode
width as the decoder looks them up. -/

namespace Sys2Proof.Machine

/-- Every instruction that `r` answers for `w` has `w` as its word. -/
def ReadsWord (w : Word) (r : DecodeResult) : Prop := ∀ i, r = .ok i → encode i = w

section ReadsWord
variable {w : Word}

theorem readsWord_ok {i : Instr} (h : encode i = w) : ReadsWord w (.ok i) := by
  rintro _ ⟨⟩
  exact h

theorem readsWord_undefined : ReadsWord w .undefinedOpcode := fun _ h => nomatch h

theorem readsWord_constantBits {p : Prop} [Decidable p] {i : Instr} (h : p → encode i = w) :
    ReadsWord w (constantBits (decide p) i) := by
  by_cases hp : p
  · simpa [constantBits, hp] using readsWord_ok (h hp)
  · simp [constantBits, hp, ReadsWord]

theorem enc2R_fields {n : Nat} (h : (w.extractLsb' 10 22).toNat = n) :
    enc2R (BitVec.ofNat 22 n) (fieldJ w) (fieldD w) = w := by
  rw [← h, BitVec.ofNat_toNat, BitVec.setWidth_eq]; exact (enc2R_split w).symm

theorem enc3R_fields {n : Nat} (h : (w.extractLsb' 15 17).toNat = n) :
    enc3R (BitVec.ofNat 17 n) (fieldK w) (fieldJ w) (fieldD w) = w := by
  rw [← h, BitVec.ofNat_toNat, BitVec.setWidth_eq]; exact (enc3R_split w).symm

theorem encCode15_fields {n : Nat} (h : (w.extractLsb' 15 17).toNat = n) :
    encCode15 (BitVec.ofNat 17 n) (fieldCode w) = w := by
  rw [← h, BitVec.ofNat_toNat, BitVec.setWidth_eq]; exact (encCode15_split w).symm

theorem enc4R_fields {n : Nat} (h : (w.extractLsb' 20 12).toNat = n) :
    enc4R (BitVec.ofNat 12 n) (fieldA w) (fieldK w) (fieldJ w) (fieldD w) = w := by
  rw [← h, BitVec.ofNat_toNat, BitVec.setWidth_eq]; exact (enc4R_split w).symm

theorem enc2RI12_fields {n : Nat} (h : (w.extractLsb' 22 10).toNat = n) :
    enc2RI12 (BitVec.ofNat 10 n) (fieldI12 w) (fieldJ w) (fieldD w) = w := by
  rw [← h, BitVec.ofNat_toNat, BitVec.setWidth_eq]; exact (enc2RI12_split w).symm

theorem enc2RI14_fields {n : Nat} (h : (w.extractLsb' 24 8).toNat = n) :
    enc2RI14 (BitVec.ofNat 8 n) (fieldI14 w) (fieldJ w) (fieldD w) = w := by
  rw [← h, BitVec.ofNat_toNat, BitVec.setWidth_eq]; exact (enc2RI14_split w).symm

theorem enc2RI16_fields {n : Nat} (h : (w.extractLsb' 26 6).toNat = n) :
    enc2RI16 (BitVec.ofNat 6 n) (fieldOffs16 w) (fieldJ w) (fieldD w) = w := by
  rw [← h, BitVec.ofNat_toNat, BitVec.setWidth_eq]; exact (enc2RI16_split w).symm

theorem enc1RI20_fields {n : Nat} (h : (w.extractLsb' 25 7).toNat = n) :
    enc1RI20 (BitVec.ofNat 7 n) (fieldI20 w) (fieldD w) = w := by
  rw [← h, BitVec.ofNat_toNat, BitVec.setWidth_eq]; exact (enc1RI20_split w).symm

/-- A flag number in its slot, under the bits that stand above it (30_encoding.md R91). -/
theorem flagSlot_split (w : Word) (start : Nat) {top : BitVec 2} (h : w.extractLsb' (start + 3) 2 = top) :
    flagSlot top (w.extractLsb' start 3) = w.extractLsb' start 5 := by
  rw [flagSlot, ← h]
  exact BitVec.extractLsb'_append_extractLsb'_eq_extractLsb' rfl

/-- The part of an offset that stands in w[25:10] (30_encoding.md R100, R101). -/
theorem extract_offset_low {n : Nat} (x : BitVec n) (w : Word) :
    (x ++ w.extractLsb' 10 16 : BitVec (n + 16)).extractLsb' 0 16 = fieldOffs16 w := by
  ext k hk
  rw [BitVec.getElem_extractLsb', BitVec.getLsbD_append, if_pos (by omega), Nat.zero_add, fieldOffs16,
    BitVec.getLsbD_eq_getElem hk]

/-- The parts of an offset that stand in the low bits of the word (30_encoding.md R100, R101). -/
theorem extract_offset_high {n : Nat} (w : Word) (start : Nat) (h : start + 5 ≤ n) :
    (w.extractLsb' 0 n ++ w.extractLsb' 10 16 : BitVec (n + 16)).extractLsb' (16 + start) 5 = w.extractLsb' start 5 := by
  ext k hk
  rw [BitVec.getElem_extractLsb', BitVec.getLsbD_append, if_neg (by omega), BitVec.getLsbD_extractLsb',
    BitVec.getElem_extractLsb']
  simp [show 16 + start + k - 16 = start + k by omega, show start + k < n by omega]

/-- A field inside a range of bits that are all 0. -/
theorem extract_zero {n : Nat} (start len : Nat) (hle : start + len ≤ n) (h : w.extractLsb' 0 n = 0) :
    w.extractLsb' start len = 0 := by
  ext k hk
  have hbit := congrArg (·.getLsbD (start + k)) h
  simpa [show start + k < n by omega, BitVec.getElem_extractLsb'] using hbit

/-! ### Each width of opcodes -/

theorem readsWord_decodeOpcode22 : ReadsWord w (decodeOpcode22 w) := by
  unfold decodeOpcode22
  split
  -- RDCNTID and RDCNTVL.W, then RDCNTVH.W
  case h_1 h =>
    split
    · next hd => exact readsWord_ok ((congrArg (enc2R _ _) hd.symm).trans (enc2R_fields h))
    · exact readsWord_constantBits fun hj => (congrArg (enc2R _ · _) hj.symm).trans (enc2R_fields h)
  case h_2 h => exact readsWord_constantBits fun hj => (congrArg (enc2R _ · _) hj.symm).trans (enc2R_fields h)
  -- MOVFR2CF and MOVGR2CF
  case h_23 h | h_25 h =>
    exact readsWord_constantBits fun ht => (congrArg (enc2R _ _) (flagSlot_split w 0 ht)).trans (enc2R_fields h)
  -- MOVCF2FR and MOVCF2GR
  case h_24 h | h_26 h =>
    exact readsWord_constantBits fun ht => (congrArg (enc2R _ · _) (flagSlot_split w 5 ht)).trans (enc2R_fields h)
  -- The TLB instructions and ERTN
  case h_41 h | h_42 h | h_43 h | h_44 h | h_45 h =>
    refine readsWord_constantBits fun hz => ?_
    have hj : fieldJ w = 0 := extract_zero 5 5 (by decide) hz
    have hd : fieldD w = 0 := extract_zero 0 5 (by decide) hz
    exact (congrArg₂ (enc2R _) hj.symm hd.symm).trans (enc2R_fields h)
  case h_46 => exact readsWord_undefined
  all_goals exact readsWord_ok (enc2R_fields ‹_›)

theorem readsWord_decodeOpcode17 : ReadsWord w (decodeOpcode17 w) := by
  unfold decodeOpcode17
  split
  -- BREAK, SYSCALL, IDLE, DBAR and IBAR
  case h_19 | h_20 | h_42 | h_44 | h_45 => exact readsWord_ok (encCode15_fields ‹_›)
  case h_46 => exact readsWord_decodeOpcode22
  all_goals exact readsWord_ok (enc3R_fields ‹_›)

theorem readsWord_decodeOpcode12 : ReadsWord w (decodeOpcode12 w) := by
  unfold decodeOpcode12
  split
  -- FCMP
  case h_9 h | h_10 h =>
    exact readsWord_constantBits fun ht => (congrArg (enc4R _ _ _ _) (flagSlot_split w 0 ht)).trans (enc4R_fields h)
  -- FSEL
  case h_11 h =>
    exact readsWord_constantBits fun ht => (congrArg (enc4R _ · _ _ _) (flagSlot_split w 15 ht)).trans (enc4R_fields h)
  case h_12 => exact readsWord_decodeOpcode17
  all_goals exact readsWord_ok (enc4R_fields ‹_›)

theorem readsWord_decodeOpcode10 : ReadsWord w (decodeOpcode10 w) := by
  unfold decodeOpcode10
  split
  -- NOP and ANDI
  case h_4 h =>
    split
    · next hw => exact readsWord_ok (hw ▸ rfl)
    · exact readsWord_ok (enc2RI12_fields h)
  case h_21 => exact readsWord_decodeOpcode12
  all_goals exact readsWord_ok (enc2RI12_fields ‹_›)

theorem readsWord_decodeOpcode8 : ReadsWord w (decodeOpcode8 w) := by
  unfold decodeOpcode8
  split
  -- CSRRD, CSRWR and CSRXCHG
  case h_1 h =>
    split
    · next hj => exact readsWord_ok ((congrArg (enc2RI14 _ _ · _) hj.symm).trans (enc2RI14_fields h))
    split
    · next hj => exact readsWord_ok ((congrArg (enc2RI14 _ _ · _) hj.symm).trans (enc2RI14_fields h))
    · exact readsWord_ok (enc2RI14_fields h)
  case h_4 => exact readsWord_decodeOpcode10
  all_goals exact readsWord_ok (enc2RI14_fields ‹_›)

theorem readsWord_decodeOpcode7 : ReadsWord w (decodeOpcode7 w) := by
  unfold decodeOpcode7
  split
  case h_3 => exact readsWord_decodeOpcode8
  all_goals exact readsWord_ok (enc1RI20_fields ‹_›)

theorem enc2RI16_offs21 {n : Nat} {top : BitVec 2} (h : (w.extractLsb' 26 6).toNat = n) (ht : w.extractLsb' 8 2 = top) :
    enc2RI16 (BitVec.ofNat 6 n) ((fieldOffs21 w).extractLsb' 0 16) (flagSlot top (fieldCj w))
      ((fieldOffs21 w).extractLsb' 16 5) = w := by
  rw [fieldOffs21, extract_offset_low, extract_offset_high w 0 (by decide), fieldCj, flagSlot_split w 5 ht]
  exact enc2RI16_fields h

theorem enc2RI16_offs26 {n : Nat} (h : (w.extractLsb' 26 6).toNat = n) :
    enc2RI16 (BitVec.ofNat 6 n) ((fieldOffs26 w).extractLsb' 0 16) ((fieldOffs26 w).extractLsb' 21 5)
      ((fieldOffs26 w).extractLsb' 16 5) = w := by
  rw [fieldOffs26, extract_offset_low, extract_offset_high w 0 (by decide), extract_offset_high w 5 (by decide)]
  exact enc2RI16_fields h

theorem readsWord_decode : ReadsWord w (decode w) := by
  unfold decode decodeOpcode6
  split
  -- BCEQZ and BCNEZ
  case h_1 h =>
    split
    · next ht => exact readsWord_ok (enc2RI16_offs21 h ht)
    split
    · next ht => exact readsWord_ok (enc2RI16_offs21 h ht)
    · exact readsWord_undefined
  -- B and BL
  case h_3 h | h_4 h => exact readsWord_ok (enc2RI16_offs26 h)
  case h_11 => exact readsWord_decodeOpcode7
  all_goals exact readsWord_ok (enc2RI16_fields ‹_›)

end ReadsWord

theorem encode_of_decode {w : Word} {i : Instr} (h : decode w = .ok i) : encode i = w := readsWord_decode i h

end Sys2Proof.Machine
end

section
/-! PROOFS. Memory and the step (20_memory.md): the stages of a step, what an instruction does to memory and to `dirty`, and a
stored word read back in parts. -/

namespace Sys2Proof.Machine

/-! ### The word at the pc -/

theorem toNat_append_byte {n : Nat} (x : BitVec n) (b : Byte) : (x ++ b).toNat = 256 * x.toNat + b.toNat := by
  rw [BitVec.toNat_append, ← Nat.shiftLeft_add_eq_or_of_lt b.isLt, Nat.shiftLeft_eq, Nat.mul_comm]

/-- The instruction word is read little-endian (20_memory.md R62). -/
theorem instrWordAt_bytes (a : Word) (s : State) : instrWordAt a s =
    (byteAt (a + 3) s ++ byteAt (a + 2) s ++ byteAt (a + 1) s ++ byteAt a s : BitVec (8 + 8 + 8 + 8)) := by
  have h2 : a + 1 + 1 = a + 2 := by bv_omega
  have h3 : a + 2 + 1 = a + 3 := by bv_omega
  have hlt : memRead 4 a s < 2 ^ 32 := memRead_lt 4 a s
  apply BitVec.eq_of_toNat_eq
  rw [instrWordAt, BitVec.toNat_ofNat, Nat.mod_eq_of_lt hlt, toNat_append_byte, toNat_append_byte,
    toNat_append_byte]
  simp only [memRead, h2, h3]
  omega

theorem instrWordAt_congr {s t : State} (h : t.mem = s.mem) (a : Word) : instrWordAt a t = instrWordAt a s := by
  rw [instrWordAt, memRead_congr h, instrWordAt]

theorem dirtyRange_congr {s t : State} (h : t.dirty = s.dirty) (n : Nat) (a : Word) :
    dirtyRange n a t = dirtyRange n a s := by
  induction n generalizing a with
  | zero => rfl
  | succ n ih => simp [dirtyRange, ih, h]

/-! ### The stages of the fetch, whatever the boundary does (20_memory.md R67) -/

/-- The stages of a step, read of the state before the boundary. -/
theorem step_eq (s : State) : step s =
    if s.pc.toNat % 4 ≠ 0 then .fault (.adef s.pc (boundary s))
    else if !mappedRange 4 s.pc s then .refused (.unmapped s.pc)
    else if dirtyRange 4 s.pc s then .refused (.staleFetch s.pc)
    else runWord exec (instrWordAt s.pc s) (boundary s) := by
  rw [step, fetchAndRun, fetch, raise, boundary_pc, mappedRange_congr (boundary_memMap s),
    dirtyRange_congr (boundary_dirty s), instrWordAt_congr (boundary_mem s)]

section Fetch
variable {s : State}

theorem step_unmapped (ha : s.pc.toNat % 4 = 0) (hm : mappedRange 4 s.pc s = false) :
    step s = .refused (.unmapped s.pc) := by
  simp [step_eq, ha, hm]

theorem step_stale (ha : s.pc.toNat % 4 = 0) (hm : mappedRange 4 s.pc s = true) (hd : dirtyRange 4 s.pc s = true) :
    step s = .refused (.staleFetch s.pc) := by
  simp [step_eq, ha, hm, hd]

theorem step_fetched (ha : s.pc.toNat % 4 = 0) (hm : mappedRange 4 s.pc s = true) (hd : dirtyRange 4 s.pc s = false) :
    step s = runWord exec (instrWordAt s.pc s) (boundary s) := by
  simp [step_eq, ha, hm, hd]

/-- The fetch reads a word where each of its bytes is in MEM_MAP and not in `dirty`. -/
theorem step_of_fetchable (ha : s.pc.toNat % 4 = 0)
    (h : ∀ k, k < 4 → mapped (s.pc + BitVec.ofNat 32 k) s = true ∧ (s.pc + BitVec.ofNat 32 k).toNat ∉ s.dirty) :
    step s = runWord exec (instrWordAt s.pc s) (boundary s) := by
  refine step_fetched ha ((mappedRange_offsets 4 _ s).2 fun k hk => (h k hk).1) (Bool.eq_false_iff.2 fun hd => ?_)
  obtain ⟨k, hk, hmem⟩ := (dirtyRange_offsets 4 _ s).1 hd
  exact (h k hk).2 hmem

/-- The fetch is refused where one of its bytes is outside MEM_MAP or in `dirty`. -/
theorem step_of_not_fetchable (ha : s.pc.toNat % 4 = 0)
    (h : ∃ k, k < 4 ∧ (mapped (s.pc + BitVec.ofNat 32 k) s = false ∨ (s.pc + BitVec.ofNat 32 k).toNat ∈ s.dirty)) :
    step s = .refused (.unmapped s.pc) ∨ step s = .refused (.staleFetch s.pc) := by
  cases hm : mappedRange 4 s.pc s with
  | false => exact .inl (step_unmapped ha hm)
  | true =>
    obtain ⟨k, hk, hout | hdirty⟩ := h
    · rw [(mappedRange_offsets 4 _ s).1 hm k hk] at hout
      cases hout
    · exact .inr (step_stale ha hm ((dirtyRange_offsets 4 _ s).2 ⟨k, hk, hdirty⟩))

end Fetch

theorem runWord_ok {run : Instr → State → Out} {w : Word} {i : Instr} (h : decode w = .ok i) (s : State) :
    runWord run w s = run i s := by rw [runWord, h]

/-- Settles O6: the fetch reads the word and the decoder gives the instruction. -/
theorem stepRunsDecoded : Obligations.StepRunsDecoded := by
  intro s i ha hfetch hdec
  rw [step_of_fetchable ha hfetch, runWord_ok hdec]

/-! ### Decoding and running -/

theorem runWord_undefined {run : Instr → State → Out} {w : Word} (h : decode w = .undefinedOpcode) (s : State) :
    runWord run w s = .fault (.ine w s) := by rw [runWord, h, raise]

theorem runWord_reserved {run : Instr → State → Out} {w : Word} (h : decode w = .reservedField) (s : State) :
    runWord run w s = .refused (.reservedField w) := by rw [runWord, h]

theorem exec_privileged {i : Instr} (hi : privileged i = true) (s : State) : exec i s = privilegedOnly i s := by
  cases i with
  | csrrd | csrwr | csrxchg | tlbsrch | tlbrd | tlbwr | tlbfill | ertn | idle | invtlb => rfl
  | _ => cases hi

/-- IPE carries the word at the pc, for that is the word of the decoded instruction (60_exceptions.md R366). -/
theorem runWord_privileged {w : Word} {i : Instr} {s : State} (hdec : decode w = .ok i) (hi : privileged i = true)
    (hs : s.plv = .plv3) : runWord exec w s = .fault (.ipe w s) := by
  rw [runWord_ok hdec, exec_privileged hi, privilegedOnly_plv3 hs, encode_of_decode hdec]

/-- Settles O7: the stages of the fetch, then those of running the word it reads. -/
theorem fetchAndExecuteStages : Obligations.FetchAndExecuteStages := by
  intro s
  have aligned (h : s.pc.extractLsb' 0 2 = 0) : s.pc.toNat % 4 = 0 := by rw [← toNat_extractLow, h]; rfl
  refine ⟨step_misaligned, fun ha => step_of_not_fetchable (aligned ha), ?_⟩
  intro ha hfetch w hw
  have hstep : step s = runWord exec w (boundary s) := by
    rw [step_of_fetchable (aligned ha) hfetch, instrWordAt_bytes, hw]
  rw [hstep]
  refine ⟨fun h => runWord_undefined h _, fun h => runWord_reserved h _, fun i hdec => ⟨fun hi hplv => ?_, fun _ => ?_⟩⟩
  · exact runWord_privileged hdec hi ((boundary_plv s).trans hplv)
  · exact runWord_ok hdec _

/-! ### Instructions that leave memory alone -/

/-- Memory, `dirty` and LLbit are as before. -/
def StorageKept (s t : State) : Prop := t.mem = s.mem ∧ t.dirty = s.dirty ∧ t.llbit = s.llbit

/-- If the outcome is a next state, it keeps memory, `dirty` and LLbit. -/
def KeepsStorage (s : State) (o : Out) : Prop := ∀ t, o = .next t → StorageKept s t

/-- LL.W, SC.W, the stores and IBAR: the instructions that write memory, `dirty` or LLbit (20_memory.md R77, 10_state.md R45). -/
def writesStorage : Instr → Bool
  | .llW .. | .scW .. | .stB .. | .stH .. | .stW .. | .fstS .. | .fstD .. | .ibar .. => true
  | _ => false

section KeepsStorage
variable {s : State}

theorem keepsStorage_next {u : State} (hu : StorageKept s u) : KeepsStorage s (.next u) := by
  rintro _ ⟨⟩
  exact hu

theorem keepsStorage_fault (f : Fault) : KeepsStorage s (.fault f) := fun _ h => nomatch h
theorem keepsStorage_refused (r : Refusal) : KeepsStorage s (.refused r) := fun _ h => nomatch h

theorem keepsStorage_gprResult (rd : RegNo) (v : Word) : KeepsStorage s (gprResult rd v s) :=
  keepsStorage_next (by simp [StorageKept])

theorem keepsStorage_gprDraw (rd : RegNo) : KeepsStorage s (gprDraw rd s) := keepsStorage_next (by simp [StorageKept])

theorem keepsStorage_divisionResult (rd rk : RegNo) (v : Int) : KeepsStorage s (divisionResult rd rk v s) := by
  unfold divisionResult
  split
  · exact keepsStorage_gprDraw rd
  · exact keepsStorage_gprResult rd _

theorem keepsStorage_branchIf (taken : Bool) (offset : Word) : KeepsStorage s (branchIf taken offset s) := by
  rw [branchIf_eq]
  exact keepsStorage_next ⟨rfl, rfl, rfl⟩

theorem keepsStorage_linkAndJump (r : RegNo) (target : Word) : KeepsStorage s (linkAndJump r target s) :=
  keepsStorage_next (by simp [StorageKept])

theorem keepsStorage_loadAccess {n : Nat} {a : Word} {write : Nat → State → State} (hw : ∀ v, StorageKept s (write v s)) :
    KeepsStorage s (loadAccess n a write s) := by
  intro t h
  obtain ⟨-, -, hdone⟩ := guardAccess_next h
  exact keepsStorage_next (u := advance _) (hw (memRead n a s)) t hdone

theorem keepsStorage_loadGpr (n : Nat) (a : Word) (rd : RegNo) (value : Nat → Word) :
    KeepsStorage s (loadAccess n a (fun v => writeGpr rd (value v)) s) :=
  keepsStorage_loadAccess fun _ => by simp [StorageKept]

theorem keepsStorage_fpFinish {exc : FpExc} {write : State → State} (hw : ∀ u, StorageKept u (write u)) :
    KeepsStorage s (fpFinish exc write s) := by
  unfold fpFinish
  split
  · exact keepsStorage_fault _
  · exact keepsStorage_next (hw (accumulateFlags exc (setCause exc s)))

theorem keepsStorage_fcmp (cond : BitVec 5) (cd : CfNo) (a b : FpValue) : KeepsStorage s (fcmp cond cd a b s) := by
  unfold fcmp
  split
  · exact keepsStorage_refused _
  · exact keepsStorage_fpFinish fun _ => ⟨rfl, rfl, rfl⟩

theorem keepsStorage_movgr2fcsr (fcsr : BitVec 5) (rj : RegNo) : KeepsStorage s (execMovgr2fcsr fcsr rj s) := by
  unfold execMovgr2fcsr
  split
  · exact keepsStorage_next ⟨rfl, rfl, rfl⟩
  · exact keepsStorage_refused _

theorem keepsStorage_movfcsr2gr (rd : RegNo) (fcsr : BitVec 5) : KeepsStorage s (execMovfcsr2gr rd fcsr s) := by
  unfold execMovfcsr2gr
  split
  · exact keepsStorage_gprResult rd _
  · exact keepsStorage_refused _

/-- All instructions but LL.W, SC.W, the stores and IBAR keep memory, `dirty` and LLbit (20_memory.md R77, 10_state.md R45). -/
theorem exec_keepsStorage {i : Instr} (hi : writesStorage i = false) : KeepsStorage s (exec i s) := by
  cases i with
  | llW | scW | stB | stH | stW | fstS | fstD | ibar => cases hi
  | addW | subW | slt | sltu | nor | and | or | xor | slti | sltui | addiW | andi | ori | xori | lu12iW | pcaddu12i | nop
  | mulW | mulhW | mulhWu | sllW | srlW | sraW | slliW | srliW | sraiW | rdcntid | movfr2grS | movfrh2grS | movcf2gr =>
    exact keepsStorage_gprResult _ _
  | divW | modW | divWu | modWu => exact keepsStorage_divisionResult _ _ _
  | rdcntvlW | rdcntvhW => exact keepsStorage_gprDraw _
  | beq | bne | blt | bge | bltu | bgeu | bceqz | bcnez => exact keepsStorage_branchIf _ _
  | bl | jirl => exact keepsStorage_linkAndJump _ _
  | b | preld | dbar | fcopysignS | fabsS | fnegS | fclassS | fmovS | movgr2frW | fcopysignD | fabsD | fnegD | fclassD | fmovD
  | movcf2fr | fsel | movgr2frhW | movfr2cf | movgr2cf => exact keepsStorage_next ⟨rfl, rfl, rfl⟩
  | ldB => exact keepsStorage_loadGpr _ _ _ fun v => (BitVec.ofNat 8 v).signExtend 32
  | ldH => exact keepsStorage_loadGpr _ _ _ fun v => (BitVec.ofNat 16 v).signExtend 32
  | ldW => exact keepsStorage_loadGpr _ _ _ (BitVec.ofNat 32)
  | ldBu => exact keepsStorage_loadGpr _ _ _ fun v => (BitVec.ofNat 8 v).setWidth 32
  | ldHu => exact keepsStorage_loadGpr _ _ _ fun v => (BitVec.ofNat 16 v).setWidth 32
  | fldS fd => exact keepsStorage_loadAccess (write := fun v => writeFprLow fd (BitVec.ofNat 32 v)) fun _ => ⟨rfl, rfl, rfl⟩
  | fldD fd => exact keepsStorage_loadAccess (write := fun v => writeFpr fd (BitVec.ofNat 64 v)) fun _ => ⟨rfl, rfl, rfl⟩
  | brk | syscall => exact keepsStorage_fault _
  | cacop => exact keepsStorage_refused _
  | csrrd | csrwr | csrxchg | tlbsrch | tlbrd | tlbwr | tlbfill | ertn | idle | invtlb =>
    exact fun _ h => (privilegedOnly_not_next h).elim
  | faddS | fsubS | fmulS | fdivS | fmaxS | fminS | fmaxaS | fminaS | fsqrtS | frecipS | frsqrtS | fmaddS | fmsubS | fnmaddS
  | fnmsubS | fcvtSD | ffintSW | ftintrmWS | ftintrmWD | ftintrpWS | ftintrpWD | ftintrzWS | ftintrzWD | ftintrneWS
  | ftintrneWD | ftintWS | ftintWD | faddD | fsubD | fmulD | fdivD | fmaxD | fminD | fmaxaD | fminaD | fsqrtD | frecipD
  | frsqrtD | fmaddD | fmsubD | fnmaddD | fnmsubD | fcvtDS | ffintDW =>
    exact keepsStorage_fpFinish fun _ => ⟨rfl, rfl, rfl⟩
  | fcmpS | fcmpD => exact keepsStorage_fcmp _ _ _ _
  | movgr2fcsr => exact keepsStorage_movgr2fcsr _ _
  | movfcsr2gr => exact keepsStorage_movfcsr2gr _ _

end KeepsStorage

/-! ### Memory and `dirty` after each instruction -/

/-- Memory and `dirty` of `t` are those of `s` after a store of `n` bytes at `base` (20_memory.md R77). -/
def StoredAt (base : Word) (n : Nat) (s t : State) : Prop :=
  n ≤ 8 ∧ ∃ v, t.mem = (memWrite n base v s).mem ∧ t.dirty = (memWrite n base v s).dirty

section Stores
variable {s t : State}

theorem StoredAt.mem_dirty {base : Word} {n : Nat} (h : StoredAt base n s t) (a : Word) :
    a.toNat ∈ t.dirty ↔ a.toNat ∈ s.dirty ∨ InRange a base n := by
  obtain ⟨hn, v, -, hd⟩ := h
  rw [hd, memWrite_dirty, mem_markDirty n (by omega)]

theorem StoredAt.byteAt_outside {base : Word} {n : Nat} (h : StoredAt base n s t) {a : Word} (ha : ¬InRange a base n) :
    byteAt a t = byteAt a s := by
  obtain ⟨hn, v, hm, -⟩ := h
  rw [byteAt, hm, memWrite_mem, readByte_write n (by omega), byteAt]
  exact if_neg ha

theorem storedAt_of_storeAccess {n : Nat} {a : Word} {v : Nat} (hn : n ≤ 8) (h : storeAccess n a v s = .next t) :
    StoredAt a n s t := by
  obtain ⟨-, -, hdone⟩ := guardAccess_next h
  cases hdone
  exact ⟨hn, v, rfl, rfl⟩

/-- SC.W stores only with LLbit 1 (45_atomic_barrier.md R191). -/
theorem execScW_storage {rd rj : RegNo} {si14 : BitVec 14} (h : execScW rd rj si14 s = .next t) :
    if s.llbit then StoredAt (vaddr14 rj si14 s) 4 s t else t.mem = s.mem ∧ t.dirty = s.dirty := by
  obtain ⟨-, -, hdone⟩ := guardAccess_next h
  cases hdone
  split
  · exact ⟨by decide, (readGpr rd s).toNat, by simp, by simp⟩
  · simp

/-- What a completed store leaves of memory and `dirty`. -/
theorem storedAt_of_storeRange {i : Instr} {base : Word} {n : Nat} (h : exec i s = .next t)
    (hr : storeRange i s = some (base, n)) : StoredAt base n s t := by
  cases i with
  | stB | stH | stW | fstS | fstD => cases hr; exact storedAt_of_storeAccess (by decide) h
  | scW rd rj si14 =>
    have hsc := execScW_storage h
    cases hl : s.llbit <;> simp only [storeRange, hl] at hr hsc
    · cases hr
    · cases hr; exact hsc
  | _ => cases hr

/-- What a completed instruction that stores nothing leaves of memory and `dirty`. -/
theorem storage_of_no_storeRange {i : Instr} (h : exec i s = .next t) (hr : storeRange i s = none) :
    t.mem = s.mem ∧ t.dirty = if isIbar i then [] else s.dirty := by
  cases hi : writesStorage i with
  | false =>
    obtain ⟨hm, hd, -⟩ := exec_keepsStorage hi t h
    have hibar : isIbar i = false := by
      cases i with
      | ibar => cases hi
      | _ => rfl
    exact ⟨hm, by simp [hibar, hd]⟩
  | true =>
    cases i with
    | stB | stH | stW | fstS | fstD => cases hr
    | ibar => cases h; exact ⟨rfl, rfl⟩
    | llW =>
      obtain ⟨-, -, hdone⟩ := guardAccess_next h
      cases hdone
      simp [isIbar]
    | scW =>
      have hsc := execScW_storage h
      cases hl : s.llbit <;> simp only [storeRange, hl] at hr hsc
      · exact hsc
      · cases hr
    | _ => cases hi

end Stores

/-- Settles O17: what a store, and what any other instruction, does to memory and `dirty`; and the fetch of a dirty byte. -/
theorem storesJoinDirty : Obligations.StoresJoinDirty := by
  refine ⟨rfl, fun i s t base n h hr => ?_, fun i s t h hr => ?_, fun s ha hmap hdirty => ?_⟩
  · have hstored := storedAt_of_storeRange h hr
    exact ⟨hstored.mem_dirty, fun a ha => hstored.byteAt_outside ha⟩
  · obtain ⟨hm, hd⟩ := storage_of_no_storeRange h hr
    exact ⟨byteAt_congr hm, hd⟩
  · exact step_stale ha ((mappedRange_offsets 4 _ s).2 hmap) ((dirtyRange_offsets 4 _ s).2 hdirty)

/-! ### Reads of a stored word -/

/-- Bytes `j .. j + m - 1` of what was stored are the number read there (20_memory.md R62, R63). -/
theorem memRead_memWrite {n : Nat} (hn : n ≤ 8) (a : Word) (v : Nat) (s : State) (m j : Nat) (hjm : j + m ≤ n) :
    memRead m (a + BitVec.ofNat 32 j) (memWrite n a v s) = v / 256 ^ j % 256 ^ m := by
  induction m generalizing j with
  | zero => simp [memRead, Nat.mod_one]
  | succ m ih =>
    have hsub : (a + BitVec.ofNat 32 j - a).toNat = j := by bv_omega
    have hnext : a + BitVec.ofNat 32 j + 1 = a + BitVec.ofNat 32 (j + 1) := by bv_omega
    have hbyte : byteAt (a + BitVec.ofNat 32 j) (memWrite n a v s) = BitVec.ofNat 8 (v / 256 ^ j) := by
      rw [byteAt, memWrite_mem, readByte_write n (by omega), hsub, if_pos (by omega)]
    rw [memRead, hbyte, hnext, ih (j + 1) (by omega), BitVec.toNat_ofNat, pow_succ 256 j, ← Nat.div_div_eq_div_mul,
      pow_succ' 256 m, Nat.mod_mul (a := 256)]

/-- The number of some bytes of a word, as those bytes. -/
theorem ofNat_bytes (w : Word) (j m : Nat) :
    BitVec.ofNat (8 * m) (w.toNat / 256 ^ j % 256 ^ m) = w.extractLsb' (8 * j) (8 * m) := by
  apply BitVec.eq_of_toNat_eq
  rw [BitVec.toNat_ofNat, BitVec.extractLsb'_toNat, Nat.shiftRight_eq_div_pow, Nat.pow_mul, Nat.pow_mul, Nat.mod_mod]

theorem exec_stW_next {rd rj : RegNo} {si12 : BitVec 12} {s t : State} (h : exec (.stW rd rj si12) s = .next t) :
    (vaddr12 rj si12 s).toNat % 4 = 0 ∧ mappedRange 4 (vaddr12 rj si12 s) s = true ∧
      t = advance (memWrite 4 (vaddr12 rj si12 s) (readGpr rd s).toNat s) := by
  obtain ⟨ha, hmap, hdone⟩ := guardAccess_next h
  cases hdone
  exact ⟨ha, hmap, rfl⟩

/-- A load from inside a stored word gives that part of the stored register (20_memory.md R63). -/
theorem loadAccess_after_stW {rd rj : RegNo} {si12 : BitVec 12} {s t : State} (h : exec (.stW rd rj si12) s = .next t)
    {m j : Nat} (hjm : j + m ≤ 4) (ha : (vaddr12 rj si12 s + BitVec.ofNat 32 j).toNat % m = 0)
    (write : Nat → State → State) : loadAccess m (vaddr12 rj si12 s + BitVec.ofNat 32 j) write t =
      .next (advance (write ((readGpr rd s).toNat / 256 ^ j % 256 ^ m) t)) := by
  obtain ⟨-, hmap, rfl⟩ := exec_stW_next h
  have hread := memRead_memWrite (by decide) (vaddr12 rj si12 s) (readGpr rd s).toNat s m j hjm
  have hinside : mappedRange m (vaddr12 rj si12 s + BitVec.ofNat 32 j) s = true := by
    refine (mappedRange_offsets m _ s).2 fun k hk => ?_
    rw [BitVec.add_assoc, ← BitVec.ofNat_add]
    exact (mappedRange_offsets 4 _ s).1 hmap (j + k) (by omega)
  rw [loadAccess, guardAccess_ok ha ((mappedRange_congr (by simp) m _).trans hinside),
    (memRead_congr (advance_mem _) m _).trans hread]

/-- Settles O18: a byte and a half of the word are loads from inside it. -/
theorem mixedWidthReads : Obligations.MixedWidthReads := by
  intro rd rj si12 s t h
  refine ⟨fun r j i12 k hk hv => ?_, fun r j i12 k hk hv => ?_⟩
  · have hload := loadAccess_after_stW h (m := 1) (j := k) (by omega) (Nat.mod_one _)
      (fun v => writeGpr r ((BitVec.ofNat 8 v).setWidth 32))
    rw [← hv] at hload
    exact writesGpr_of hload (congrArg (BitVec.setWidth 32) (ofNat_bytes (readGpr rd s) k 1))
  · obtain ⟨ha, -, -⟩ := exec_stW_next h
    have heven : (vaddr12 rj si12 s + BitVec.ofNat 32 (2 * k)).toNat % 2 = 0 := by bv_omega
    have hload := loadAccess_after_stW h (m := 2) (j := 2 * k) (by omega) heven
      (fun v => writeGpr r ((BitVec.ofNat 16 v).setWidth 32))
    have hhalf := ofNat_bytes (readGpr rd s) (2 * k) 2
    rw [← Nat.mul_assoc] at hhalf
    rw [← hv] at hload
    exact writesGpr_of hload (congrArg (BitVec.setWidth 32) hhalf)

end Sys2Proof.Machine
end

section
/-! PROOFS. The decoder reads every well-formed instruction back from its word, and only those (30_encoding.md R104). -/

namespace Sys2Proof.Laws.DecodeEncode

/-- Settles O1, by the lemma of each instruction. -/
theorem decodeOfEncode : Obligations.DecodeOfEncode := by
  intro i
  cases i with
  | addW => apply addW | subW => apply subW | slt => apply slt | sltu => apply sltu | nor => apply nor | and => apply and
  | or => apply or | xor => apply xor | slti => apply slti | sltui => apply sltui | addiW => apply addiW | andi => apply andi
  | ori => apply ori | xori => apply xori | lu12iW => apply lu12iW | pcaddu12i => apply pcaddu12i | nop => apply nop
  | mulW => apply mulW | mulhW => apply mulhW | mulhWu => apply mulhWu | divW => apply divW | modW => apply modW
  | divWu => apply divWu | modWu => apply modWu | sllW => apply sllW | srlW => apply srlW | sraW => apply sraW
  | slliW => apply slliW | srliW => apply srliW | sraiW => apply sraiW | jirl => apply jirl | b => apply b | bl => apply bl
  | beq => apply beq | bne => apply bne | blt => apply blt | bge => apply bge | bltu => apply bltu | bgeu => apply bgeu
  | ldB => apply ldB | ldH => apply ldH | ldW => apply ldW | stB => apply stB | stH => apply stH | stW => apply stW
  | ldBu => apply ldBu | ldHu => apply ldHu | preld => apply preld | llW => apply llW | scW => apply scW | dbar => apply dbar
  | ibar => apply ibar | rdcntid => apply rdcntid | rdcntvlW => apply rdcntvlW | rdcntvhW => apply rdcntvhW | brk => apply brk
  | syscall => apply syscall | csrrd => apply csrrd | csrwr => apply csrwr | csrxchg => apply csrxchg | cacop => apply cacop
  | tlbsrch => apply tlbsrch | tlbrd => apply tlbrd | tlbwr => apply tlbwr | tlbfill => apply tlbfill | ertn => apply ertn
  | idle => apply idle | invtlb => apply invtlb | faddS => apply faddS | faddD => apply faddD | fsubS => apply fsubS
  | fsubD => apply fsubD | fmulS => apply fmulS | fmulD => apply fmulD | fdivS => apply fdivS | fdivD => apply fdivD
  | fmaxS => apply fmaxS | fmaxD => apply fmaxD | fminS => apply fminS | fminD => apply fminD | fmaxaS => apply fmaxaS
  | fmaxaD => apply fmaxaD | fminaS => apply fminaS | fminaD => apply fminaD | fcopysignS => apply fcopysignS
  | fcopysignD => apply fcopysignD | fabsS => apply fabsS | fabsD => apply fabsD | fnegS => apply fnegS | fnegD => apply fnegD
  | fclassS => apply fclassS | fclassD => apply fclassD | fsqrtS => apply fsqrtS | fsqrtD => apply fsqrtD
  | frecipS => apply frecipS | frecipD => apply frecipD | frsqrtS => apply frsqrtS | frsqrtD => apply frsqrtD
  | fmaddS => apply fmaddS | fmaddD => apply fmaddD | fmsubS => apply fmsubS | fmsubD => apply fmsubD
  | fnmaddS => apply fnmaddS | fnmaddD => apply fnmaddD | fnmsubS => apply fnmsubS | fnmsubD => apply fnmsubD
  | fcvtSD => apply fcvtSD | fcvtDS => apply fcvtDS | ftintrmWS => apply ftintrmWS | ftintrmWD => apply ftintrmWD
  | ftintrpWS => apply ftintrpWS | ftintrpWD => apply ftintrpWD | ftintrzWS => apply ftintrzWS | ftintrzWD => apply ftintrzWD
  | ftintrneWS => apply ftintrneWS | ftintrneWD => apply ftintrneWD | ftintWS => apply ftintWS | ftintWD => apply ftintWD
  | ffintSW => apply ffintSW | ffintDW => apply ffintDW | fcmpS => apply fcmpS | fcmpD => apply fcmpD | fmovS => apply fmovS
  | fmovD => apply fmovD | movgr2frW => apply movgr2frW | movgr2frhW => apply movgr2frhW | movfr2grS => apply movfr2grS
  | movfrh2grS => apply movfrh2grS | movgr2fcsr => apply movgr2fcsr | movfcsr2gr => apply movfcsr2gr
  | movfr2cf => apply movfr2cf | movcf2fr => apply movcf2fr | movgr2cf => apply movgr2cf | movcf2gr => apply movcf2gr
  | fsel => apply fsel | fldS => apply fldS | fstS => apply fstS | fldD => apply fldD | fstD => apply fstD
  | bceqz => apply bceqz | bcnez => apply bcnez

end Sys2Proof.Laws.DecodeEncode

namespace Sys2Proof.Machine

open Sys2Proof.Laws.DecodeEncode (decodeOfEncode)

/-- A word is read as one instruction only. -/
theorem eq_of_shared_word {i : Instr} (j : Instr) (h : decode (encode i) = .ok i) (hj : j.wellFormed = true)
    (hword : encode i = encode j) : j = i := by
  rw [hword, decodeOfEncode j hj] at h
  exact DecodeResult.ok.inj h

/-- The instructions kept out by well-formedness have their words from CSRRD, CSRWR, RDCNTID and NOP (30_encoding.md R107,
46_system_privileged.md R210, 40_int_arith_logic.md R137). -/
theorem wellFormed_of_decode_encode {i : Instr} (h : decode (encode i) = .ok i) : i.wellFormed = true := by
  cases i with
  | csrxchg rd rj csr =>
    have h0 : rj ≠ 0 := by
      rintro rfl
      exact nomatch eq_of_shared_word (.csrrd rd csr) h rfl rfl
    have h1 : rj ≠ 1 := by
      rintro rfl
      exact nomatch eq_of_shared_word (.csrwr rd csr) h rfl rfl
    simpa [Instr.wellFormed, csrxchgOperandOk] using ⟨h0, h1⟩
  | rdcntvlW rd =>
    have h0 : rd ≠ 0 := by
      rintro rfl
      exact nomatch eq_of_shared_word (.rdcntid 0) h rfl rfl
    simpa [Instr.wellFormed, rdcntvlOperandOk] using h0
  | andi rd rj ui12 =>
    have h0 : ¬(rd = 0 ∧ rj = 0 ∧ ui12 = 0) := by
      rintro ⟨rfl, rfl, rfl⟩
      exact nomatch eq_of_shared_word .nop h rfl rfl
    simpa [Instr.wellFormed, andiOperandsOk, or_assoc, imp_iff_not_or] using h0
  | _ => rfl

/-- Settles O2: the word read back, which the decoder reads as this instruction again. -/
theorem encodeOfDecode : Obligations.EncodeOfDecode := by
  intro w i h
  have hword : encode i = w := encode_of_decode h
  exact ⟨hword, wellFormed_of_decode_encode (hword ▸ h)⟩

end Sys2Proof.Machine
end

section
/-! PROOFS. The decoder against the rows of the opcode table (30_encoding.md R104 to R106), opcode width by opcode width as the
decoder looks them up. -/

namespace Sys2Proof.Machine

/-! ### Fields under a mask -/

/-- The word with ones in the `len` bits from `start` up. -/
def fieldMask (start len : Nat) : Word := (BitVec.allOnes len).setWidth 32 <<< start

/-- The word with the number `n` from bit `start` up. -/
def fieldWord (start n : Nat) : Word := BitVec.ofNat 32 n <<< start

/-- The rows that a word with the opcode `n` in the `len` bits from `start` up can match. -/
def rowsUnder (start len n : Nat) : List OpcodeRow :=
  opcodeRows.filter fun r => r.mtch &&& fieldMask start len == fieldWord start n &&& r.mask

/-- The opcode of the row takes in all bits of the word from `start` up. -/
def opcodeFrom (start : Nat) (r : OpcodeRow) : Bool :=
  r.opcodeMask.extractLsb' start (32 - start) == BitVec.allOnes (32 - start)

/-- The row has 0 in the `len` bits from `start` up, as constant operand bits (30_encoding.md R106). -/
def constantZero (start len : Nat) (r : OpcodeRow) : Bool :=
  r.mask.extractLsb' start len == BitVec.allOnes len && r.mtch.extractLsb' start len == 0

section Fields
variable {w : Word} {start len n : Nat} {r : OpcodeRow}

theorem and_fieldMask (h : (w.extractLsb' start len).toNat = n) : w &&& fieldMask start len = fieldWord start n := by
  rw [fieldWord, ← h, BitVec.ofNat_toNat, fieldMask]
  ext b hb
  by_cases hlo : b < start
  · simp [hlo]
  · simp [hlo, show start + (b - start) = b by omega, BitVec.getLsbD_eq_getElem hb, Bool.and_comm]

theorem mem_rowsUnder (h : (w.extractLsb' start len).toNat = n) (hr : r ∈ opcodeRows) (hm : w &&& r.mask = r.mtch) :
    r ∈ rowsUnder start len n := by
  refine List.mem_filter.2 ⟨hr, beq_iff_eq.2 ?_⟩
  rw [← hm, ← and_fieldMask h, BitVec.and_assoc, BitVec.and_assoc, BitVec.and_comm r.mask]

/-- A word that agrees with a row on its opcode has the opcode bits of the row. -/
theorem extract_of_agree (hr : r.opcodeMask.extractLsb' start len = BitVec.allOnes len)
    (h : w &&& r.opcodeMask = r.mtch &&& r.opcodeMask) : w.extractLsb' start len = r.mtch.extractLsb' start len :=
  (extract_of_mask start len hr h).trans (extract_of_mask start len hr rfl).symm

theorem extract_of_constantZero (hz : constantZero start len r = true) (hm : w &&& r.mask = r.mtch) :
    w.extractLsb' start len = 0 := by
  obtain ⟨hmask, hmtch⟩ := Bool.and_eq_true_iff.1 hz
  exact (extract_of_mask start len (beq_iff_eq.1 hmask) hm).trans (beq_iff_eq.1 hmtch)

end Fields

/-! ### What the table says of a reading -/

/-- What the table says of a word that is read so: some row matches; or some row agrees on its opcode mask and none matches; or
no row agrees on its opcode mask, of the rows whose opcode takes in all bits from `start` up. -/
def Listed (start : Nat) (w : Word) : DecodeResult → Prop
  | .ok _ => ∃ r ∈ opcodeRows, w &&& r.mask = r.mtch
  | .reservedField => (∃ r ∈ opcodeRows, w &&& r.opcodeMask = r.mtch &&& r.opcodeMask) ∧
      ∀ r ∈ opcodeRows, w &&& r.mask ≠ r.mtch
  | .undefinedOpcode => ∀ r ∈ opcodeRows, opcodeFrom start r = true → w &&& r.opcodeMask ≠ r.mtch &&& r.opcodeMask

section Listed
variable {w : Word} {base start len n : Nat} {i : Instr}

/-- The opcode is that of a row without constant operand bits. -/
theorem listed_opcode (h : (w.extractLsb' start len).toNat = n)
    (hr : ∃ r ∈ opcodeRows, r.mask = fieldMask start len ∧ r.mtch = fieldWord start n) : Listed base w (.ok i) := by
  obtain ⟨r, hr, hmask, hmtch⟩ := hr
  exact ⟨r, hr, by rw [hmask, hmtch, and_fieldMask h]⟩

/-- The opcode and the other constant bits are those of a row. -/
theorem listed_field {s l : Nat} {c : BitVec l} (h : (w.extractLsb' start len).toNat = n) (hc : w.extractLsb' s l = c)
    (hr : ∃ r ∈ opcodeRows, r.mask = fieldMask start len ||| fieldMask s l ∧
      r.mtch = fieldWord start n ||| fieldWord s c.toNat) : Listed base w (.ok i) := by
  obtain ⟨r, hr, hmask, hmtch⟩ := hr
  refine ⟨r, hr, ?_⟩
  rw [hmask, hmtch, BitVec.and_or_distrib_left, and_fieldMask h, and_fieldMask (congrArg BitVec.toNat hc)]

/-- The opcode is that of a row, and no row of this opcode matches. -/
theorem listed_reserved (h : (w.extractLsb' start len).toNat = n)
    (hr : ∃ r ∈ opcodeRows, r.opcodeMask = fieldMask start len ∧ r.mtch = fieldWord start n)
    (hno : ∀ r ∈ rowsUnder start len n, w &&& r.mask ≠ r.mtch) : Listed base w .reservedField := by
  obtain ⟨r, hr, hop, hmtch⟩ := hr
  refine ⟨⟨r, hr, ?_⟩, fun r hr hm => hno r (mem_rowsUnder h hr hm) hm⟩
  rw [hop, hmtch, ← and_fieldMask h, BitVec.and_assoc, BitVec.and_self]

/-- Every row of the opcode has 0 as its constant operand bits. -/
theorem listed_constantBits {s l : Nat} (h : (w.extractLsb' start len).toNat = n)
    (hr : ∃ r ∈ opcodeRows, r.opcodeMask = fieldMask start len ∧ r.mask = fieldMask start len ||| fieldMask s l ∧
      r.mtch = fieldWord start n)
    (hz : ∀ r ∈ rowsUnder start len n, constantZero s l r = true) :
    Listed base w (constantBits (decide (w.extractLsb' s l = 0)) i) := by
  obtain ⟨r, hr, hop, hmask, hmtch⟩ := hr
  by_cases hc : w.extractLsb' s l = 0
  · rw [constantBits, if_pos (decide_eq_true hc)]
    exact listed_field h hc ⟨r, hr, hmask, by simp [hmtch, fieldWord]⟩
  · rw [constantBits, if_neg (by simpa using hc)]
    exact listed_reserved h ⟨r, hr, hop, hmtch⟩ fun r hr hm => hc (extract_of_constantZero (hz r hr) hm)

/-- The opcode is none of the rows' of this width: `level` reads a word of this opcode as the widths `after` it do, which it does
for no row of this width. -/
theorem listed_next {next : Nat} {r : DecodeResult} (level after : Word → DecodeResult) (hle : start + len = 32)
    (hmiss : ∀ v, v.extractLsb' start len = w.extractLsb' start len → level v = after v)
    (hhit : ∀ r ∈ opcodeRows, opcodeFrom start r = true → opcodeFrom next r = false → level r.mtch ≠ after r.mtch)
    (h : Listed next w r) : Listed start w r := by
  match r, h with
  | .ok _, h | .reservedField, h => exact h
  | .undefinedOpcode, h =>
    intro r hr hfrom hagree
    by_cases hnext : opcodeFrom next r = true
    · exact h r hr hnext hagree
    · obtain rfl : len = 32 - start := by omega
      exact hhit r hr hfrom (by simpa using hnext) (hmiss r.mtch (extract_of_agree (beq_iff_eq.1 hfrom) hagree).symm)

/-- No row has all 32 bits as its opcode. -/
theorem listed_undefined : Listed 0 w .undefinedOpcode := fun r hr h =>
  absurd h (by revert r; decide +kernel)

/-! ### Each width of opcodes -/

theorem listed_decodeOpcode22 : Listed 10 w (decodeOpcode22 w) := by
  unfold decodeOpcode22
  split
  -- RDCNTID and RDCNTVL.W
  case h_1 h =>
    split
    · next hd => exact listed_field h hd (by decide +kernel)
    next hd =>
    by_cases hj : fieldJ w = 0
    · rw [constantBits, if_pos (decide_eq_true hj)]
      exact listed_field h hj (by decide +kernel)
    · rw [constantBits, if_neg (by simpa using hj)]
      have hrows : ∀ r ∈ rowsUnder 10 22 0x18, constantZero 0 5 r = true ∨ constantZero 5 5 r = true := by decide +kernel
      exact listed_reserved h (by decide +kernel) fun r hr hm => (hrows r hr).elim
        (fun hz => hd (extract_of_constantZero hz hm)) (fun hz => hj (extract_of_constantZero hz hm))
  case h_2 h | h_23 h | h_24 h | h_25 h | h_26 h | h_41 h | h_42 h | h_43 h | h_44 h | h_45 h =>
    exact listed_constantBits h (by decide +kernel) (by decide +kernel)
  case h_46 =>
    exact listed_next (len := 22) decodeOpcode22 (fun _ => .undefinedOpcode) rfl
      (fun v hv => by simp only [decodeOpcode22, *]) (by decide +kernel) listed_undefined
  all_goals exact listed_opcode ‹_› (by decide +kernel)

theorem listed_decodeOpcode17 : Listed 15 w (decodeOpcode17 w) := by
  unfold decodeOpcode17
  split
  case h_46 =>
    exact listed_next (len := 17) decodeOpcode17 decodeOpcode22 rfl (fun v hv => by simp only [decodeOpcode17, *])
      (by decide +kernel) listed_decodeOpcode22
  all_goals exact listed_opcode ‹_› (by decide +kernel)

theorem listed_decodeOpcode12 : Listed 20 w (decodeOpcode12 w) := by
  unfold decodeOpcode12
  split
  -- FCMP and FSEL
  case h_9 h | h_10 h | h_11 h => exact listed_constantBits h (by decide +kernel) (by decide +kernel)
  case h_12 =>
    exact listed_next (len := 12) decodeOpcode12 decodeOpcode17 rfl (fun v hv => by simp only [decodeOpcode12, *])
      (by decide +kernel) listed_decodeOpcode17
  all_goals exact listed_opcode ‹_› (by decide +kernel)

theorem listed_decodeOpcode10 : Listed 22 w (decodeOpcode10 w) := by
  unfold decodeOpcode10
  split
  -- NOP has the row of ANDI
  case h_4 h => split <;> exact listed_opcode h (by decide +kernel)
  case h_21 =>
    exact listed_next (len := 10) decodeOpcode10 decodeOpcode12 rfl (fun v hv => by simp only [decodeOpcode10, *])
      (by decide +kernel) listed_decodeOpcode12
  all_goals exact listed_opcode ‹_› (by decide +kernel)

theorem listed_decodeOpcode8 : Listed 24 w (decodeOpcode8 w) := by
  unfold decodeOpcode8
  split
  -- CSRRD and CSRWR match the row of CSRXCHG too
  case h_1 h => split_ifs <;> exact listed_opcode h (by decide +kernel)
  case h_4 =>
    exact listed_next (len := 8) decodeOpcode8 decodeOpcode10 rfl (fun v hv => by simp only [decodeOpcode8, *])
      (by decide +kernel) listed_decodeOpcode10
  all_goals exact listed_opcode ‹_› (by decide +kernel)

theorem listed_decodeOpcode7 : Listed 25 w (decodeOpcode7 w) := by
  unfold decodeOpcode7
  split
  case h_3 =>
    exact listed_next (len := 7) decodeOpcode7 decodeOpcode8 rfl (fun v hv => by simp only [decodeOpcode7, *])
      (by decide +kernel) listed_decodeOpcode8
  all_goals exact listed_opcode ‹_› (by decide +kernel)

/-- Of the rows with this opcode in w[31:26], one has 0 and one has 1 in w[9:8] (30_encoding.md R100). -/
theorem listed_undefined_branch (h : (w.extractLsb' 26 6).toNat = 0x12) (h0 : w.extractLsb' 8 2 ≠ 0)
    (h1 : w.extractLsb' 8 2 ≠ 1) : Listed 26 w .undefinedOpcode := by
  intro r hr hfrom hagree
  have hrows : ∀ r ∈ opcodeRows, (r.mtch.extractLsb' 26 6).toNat = 0x12 →
      r.opcodeMask.extractLsb' 8 2 = BitVec.allOnes 2 ∧ (r.mtch.extractLsb' 8 2 = 0 ∨ r.mtch.extractLsb' 8 2 = 1) := by
    decide +kernel
  obtain ⟨hop, hbits⟩ := hrows r hr (extract_of_agree (beq_iff_eq.1 hfrom) hagree ▸ h)
  exact hbits.elim (h0 <| (extract_of_agree hop hagree).trans ·) (h1 <| (extract_of_agree hop hagree).trans ·)

theorem listed_decode : Listed 26 w (decode w) := by
  unfold decode decodeOpcode6
  split
  -- BCEQZ and BCNEZ
  case h_1 h =>
    split_ifs with h0 h1
    · exact listed_field h h0 (by decide +kernel)
    · exact listed_field h h1 (by decide +kernel)
    · exact listed_undefined_branch h h0 h1
  case h_11 =>
    exact listed_next (len := 6) decodeOpcode6 decodeOpcode7 rfl (fun v hv => by simp only [decodeOpcode6, *])
      (by decide +kernel) listed_decodeOpcode7
  all_goals exact listed_opcode ‹_› (by decide +kernel)

end Listed

/-! ### The obligations -/

/-- A row that matches agrees on its opcode mask. -/
theorem agree_of_match {r : OpcodeRow} {w : Word} (hr : r ∈ opcodeRows) (hm : w &&& r.mask = r.mtch) :
    w &&& r.opcodeMask = r.mtch &&& r.opcodeMask := by
  have hmasks : ∀ r ∈ opcodeRows, r.mask &&& r.opcodeMask = r.opcodeMask := by decide +kernel
  rw [← hm, BitVec.and_assoc, hmasks r hr]

theorem decode_undefined_iff (w : Word) :
    decode w = .undefinedOpcode ↔ ∀ r ∈ opcodeRows, w &&& r.opcodeMask ≠ r.mtch &&& r.opcodeMask := by
  have hlisted := listed_decode (w := w)
  have hfrom : ∀ r ∈ opcodeRows, opcodeFrom 26 r = true := by decide +kernel
  cases h : decode w <;> rw [h] at hlisted
  case ok =>
    obtain ⟨r, hr, hm⟩ := hlisted
    simpa using ⟨r, hr, agree_of_match hr hm⟩
  case undefinedOpcode => simpa using fun r hr => hlisted r hr (hfrom r hr)
  case reservedField => simpa using hlisted.1

theorem decode_ok_iff (w : Word) : (∃ r ∈ opcodeRows, w &&& r.mask = r.mtch) ↔ ∃ i, decode w = .ok i := by
  have hlisted := listed_decode (w := w)
  cases h : decode w <;> rw [h] at hlisted
  case ok i => exact ⟨fun _ => ⟨i, rfl⟩, fun _ => hlisted⟩
  case undefinedOpcode => simpa using fun r hr hm => (decode_undefined_iff w).1 h r hr (agree_of_match hr hm)
  case reservedField => simpa using hlisted.2

/-- Settles O4: the reading of an undefined opcode, and INE on it. -/
theorem undefinedOpcodeRaisesIne : Obligations.UndefinedOpcodeRaisesIne := fun w =>
  ⟨decode_undefined_iff w, fun hno => runWord_undefined ((decode_undefined_iff w).2 hno)⟩

/-- Settles O5: what is neither an undefined opcode nor an instruction is refused. -/
theorem reservedFieldsRefused : Obligations.ReservedFieldsRefused := by
  intro w
  refine ⟨fun ⟨r, hr, hagree⟩ hno s => runWord_reserved ?_ s, decode_ok_iff w⟩
  cases h : decode w with
  | ok i =>
    obtain ⟨r, hr, hm⟩ := (decode_ok_iff w).2 ⟨i, h⟩
    exact absurd hm (hno r hr)
  | undefinedOpcode => exact absurd hagree ((decode_undefined_iff w).1 h r hr)
  | reservedField => rfl

end Sys2Proof.Machine
end

section
/-! PROOFS. Integer arithmetic, compare and logic (40_int_arith_logic.md): a row of the table follows from the round trip of the
decoder, and a result with its frame from the shape `gprResult`. -/

namespace Sys2Proof.Machine

open Sys2Proof.Laws.DecodeEncode (decodeOfEncode)

/-! ### Results -/

/-- The sum of the signed values modulo 2^32 is the sum of the words (R121, R123). -/
theorem add_eq_ofInt (a b : Word) : a + b = BitVec.ofInt 32 (a.toInt + b.toInt) := by
  rw [BitVec.ofInt_add, BitVec.ofInt_toInt, BitVec.ofInt_toInt]

/-- The difference likewise (R122). -/
theorem sub_eq_ofInt (a b : Word) : a - b = BitVec.ofInt 32 (a.toInt - b.toInt) := by
  rw [Int.sub_eq_add_neg, BitVec.ofInt_add, BitVec.ofInt_neg, BitVec.ofInt_toInt, BitVec.ofInt_toInt,
    BitVec.sub_eq_add_neg]

/-- Sign extension keeps the signed value (30_encoding.md R103). -/
theorem toInt_sext12 (si12 : BitVec 12) : (sext12 si12).toInt = si12.toInt :=
  BitVec.toInt_signExtend_of_le (by decide)

theorem boolWord_slt (a b : Word) : boolWord (a.slt b) = if a.toInt < b.toInt then 1 else 0 := by
  simp [boolWord, BitVec.slt]

theorem boolWord_ult (a b : Word) : boolWord (a.ult b) = if a.toNat < b.toNat then 1 else 0 := by
  simp [boolWord, BitVec.ult]

/-- Settles O19: the rows by the round trip, the sums by the signed values of their operands. -/
theorem addSubResults : Obligations.AddSubResults := by
  refine ⟨row3R_of fun d j k => decodeOfEncode (.addW d j k) rfl, row3R_of fun d j k => decodeOfEncode (.subW d j k) rfl,
    row2RI12_of fun d j i => decodeOfEncode (.addiW d j i) rfl, row1RI20_of fun d i => decodeOfEncode (.lu12iW d i) rfl,
    row1RI20_of fun d i => decodeOfEncode (.pcaddu12i d i) rfl, fun s rd rj rk si12 si20 => ⟨?_, ?_, ?_, ?_, ?_⟩⟩
  · exact writesGpr_of rfl (add_eq_ofInt _ _)
  · exact writesGpr_of rfl (sub_eq_ofInt _ _)
  · have hsum := add_eq_ofInt (readGpr rj s) (sext12 si12)
    rw [toInt_sext12] at hsum
    exact writesGpr_of rfl hsum
  · exact writesGpr_of (w := upper20 si20) rfl rfl
  · exact writesGpr_of (w := s.pc + upper20 si20) rfl rfl

/-- Settles O20: the rows by the round trip; the immediate of SLTUI is extended as a signed one and compared as unsigned. -/
theorem compareResults : Obligations.CompareResults := by
  refine ⟨row3R_of fun d j k => decodeOfEncode (.slt d j k) rfl, row3R_of fun d j k => decodeOfEncode (.sltu d j k) rfl,
    row2RI12_of fun d j i => decodeOfEncode (.slti d j i) rfl, row2RI12_of fun d j i => decodeOfEncode (.sltui d j i) rfl,
    fun s rd rj rk si12 => ⟨?_, ?_, ?_, ?_⟩⟩
  · exact writesGpr_of rfl (boolWord_slt _ _)
  · exact writesGpr_of rfl (boolWord_ult _ _)
  · have hless := boolWord_slt (readGpr rj s) (sext12 si12)
    rw [toInt_sext12] at hless
    exact writesGpr_of rfl hless
  · exact writesGpr_of rfl (boolWord_ult _ (sext12 si12))

/-! ### ANDI and NOP share a row (R137) -/

/-- ANDI of zeros is the only ANDI with the word of NOP. -/
theorem andi_wellFormed_of_ne {rd rj : RegNo} {ui12 : BitVec 12} (h : encode (.andi rd rj ui12) ≠ 0x03400000#32) :
    (Instr.andi rd rj ui12).wellFormed = true := by
  have hzero : ¬(rd = 0 ∧ rj = 0 ∧ ui12 = 0) := by
    rintro ⟨rfl, rfl, rfl⟩
    exact h rfl
  simpa [Instr.wellFormed, andiOperandsOk, or_assoc, imp_iff_not_or] using hzero

theorem decode_andi {w : Word} (hne : w ≠ 0x03400000#32) (hw : w &&& 0xFFC00000#32 = 0x03400000#32) :
    decode w = .ok (.andi (w.extractLsb' 0 5) (w.extractLsb' 5 5) (w.extractLsb' 10 12)) := by
  have hop : w.extractLsb' 22 10 = 0xD#10 := extract_of_mask 22 10 (by decide) hw
  have hword : encode (.andi (fieldD w) (fieldJ w) (fieldI12 w)) = w := enc2RI12_fields (congrArg BitVec.toNat hop)
  have hround := decodeOfEncode (.andi (fieldD w) (fieldJ w) (fieldI12 w)) (andi_wellFormed_of_ne (by rwa [hword]))
  rwa [hword] at hround

/-- The whole effect of NOP is `pc <- pc + 4` (R137). -/
theorem exec_nop (s : State) : exec .nop s = .next (advance s) := rfl

/-- Settles O21: the rows by the round trip, that of ANDI but for the word of NOP; every result as the model states it. -/
theorem logicResults : Obligations.LogicResults := by
  refine ⟨row3R_of fun d j k => decodeOfEncode (.and d j k) rfl, row3R_of fun d j k => decodeOfEncode (.or d j k) rfl,
    row3R_of fun d j k => decodeOfEncode (.nor d j k) rfl, row3R_of fun d j k => decodeOfEncode (.xor d j k) rfl,
    fun w => decode_andi, row2RI12_of fun d j i => decodeOfEncode (.ori d j i) rfl,
    row2RI12_of fun d j i => decodeOfEncode (.xori d j i) rfl, decodeOfEncode .nop rfl, fun s rd rj rk ui12 => ?_⟩
  have himm : zext12 ui12 = ui12.setWidth 32 := rfl
  exact ⟨writesGpr_of rfl rfl, writesGpr_of rfl rfl, writesGpr_of rfl rfl, writesGpr_of rfl rfl,
    writesGpr_of rfl (congrArg _ himm), writesGpr_of rfl (congrArg _ himm), writesGpr_of rfl (congrArg _ himm),
    rfl, jumpsTo_of (exec_nop s)⟩

end Sys2Proof.Machine
end

section
/-! PROOFS. Integer multiply and divide (41_int_muldiv.md): a half of the exact product, the two divisions of Lean that meet the
defining equations of quotient and remainder, and what a division leaves for each divisor. -/

namespace Sys2Proof.Machine

open Sys2Proof.Laws.DecodeEncode (decodeOfEncode)

/-! ### The halves of a product -/

/-- Bits 63:32 are those of the product divided by 2^32 toward minus infinity, whatever its sign (R142, R143). -/
theorem productHigh_eq (p : Int) : productHigh p = BitVec.ofInt 32 (p / 2 ^ 32) := by
  apply BitVec.eq_of_toNat_eq
  rw [productHigh, BitVec.extractLsb'_toNat, BitVec.toNat_ofInt, BitVec.toNat_ofInt, Nat.shiftRight_eq_div_pow]
  omega

theorem productHigh_natCast (p : Nat) : productHigh p = BitVec.ofNat 32 (p / 2 ^ 32) := by
  rw [productHigh_eq, ← BitVec.ofInt_natCast, Int.natCast_ediv]
  rfl

/-- Settles O22: the rows by the round trip, the high half of a product by its division by 2^32. -/
theorem multiplyResults : Obligations.MultiplyResults := by
  refine ⟨row3R_of fun d j k => decodeOfEncode (.mulW d j k) rfl, row3R_of fun d j k => decodeOfEncode (.mulhW d j k) rfl,
    row3R_of fun d j k => decodeOfEncode (.mulhWu d j k) rfl, fun s rd rj rk => ⟨?_, ?_, ?_⟩⟩
  · exact writesGpr_of (w := productLow _) rfl rfl
  · exact writesGpr_of rfl (productHigh_eq _)
  · exact writesGpr_of rfl (productHigh_natCast _)

/-! ### The remainder of the division toward zero (R149) -/

theorem abs_tmod_lt {b : Int} (a : Int) (hb : b ≠ 0) : |a.tmod b| < |b| := by
  rw [← Int.natCast_natAbs, ← Int.natCast_natAbs, Int.natAbs_tmod]
  exact_mod_cast Nat.mod_lt _ (Int.natAbs_pos.2 hb)

/-- The remainder has the sign of the dividend or is 0. -/
theorem tmod_mul_dividend_nonneg (a b : Int) : 0 ≤ a.tmod b * a := by
  rcases le_total 0 a with ha | ha
  · exact mul_nonneg (Int.tmod_nonneg b ha) ha
  · have hneg : 0 ≤ (-a).tmod b := Int.tmod_nonneg b (neg_nonneg.2 ha)
    rw [Int.neg_tmod] at hneg
    exact mul_nonneg_of_nonpos_of_nonpos (neg_nonneg.1 hneg) ha

/-! ### What a division leaves -/

/-- Division by 0 completes and writes some value, for any of the four (R148). -/
theorem writesGpr_division_by_zero {i : Instr} {s : State} {rd rk : RegNo} {v : Int} (hk : readGpr rk s = 0)
    (h : exec i s = divisionResult rd rk v s) : ∃ w, WritesGpr i s rd w :=
  writesGpr_draw (h.trans (if_pos hk))

/-- By any other divisor the result's low 32 bits are written. -/
theorem writesGpr_division {i : Instr} {s : State} {rd rk : RegNo} {v : Int} (hk : readGpr rk s ≠ 0)
    (h : exec i s = divisionResult rd rk v s) : WritesGpr i s rd (BitVec.ofInt 32 v) :=
  writesGpr_of (h.trans (if_neg hk)) rfl

/-- The same where the result is a natural number, as in an unsigned division. -/
theorem writesGpr_division_natCast {i : Instr} {s : State} {rd rk : RegNo} {n : Nat} (hk : readGpr rk s ≠ 0)
    (h : exec i s = divisionResult rd rk n s) : WritesGpr i s rd (BitVec.ofNat 32 n) :=
  BitVec.ofInt_natCast 32 n ▸ writesGpr_division hk h

/-- Settles O23: the rows by the round trip; `Int.tdiv` and `Int.tmod` are the quotient and remainder of R149, for the dividend
-2^31 and the divisor -1 too, where the quotient 2^31 is written as its low 32 bits. -/
theorem signedDivisionResults : Obligations.SignedDivisionResults := by
  refine ⟨row3R_of fun d j k => decodeOfEncode (.divW d j k) rfl, row3R_of fun d j k => decodeOfEncode (.modW d j k) rfl,
    fun s rd rj rk => ⟨fun hk => ⟨writesGpr_division_by_zero hk rfl, writesGpr_division_by_zero hk rfl⟩, fun hk => ?_⟩⟩
  have hdivisor : (readGpr rk s).toInt ≠ 0 := fun h => hk (BitVec.toInt_inj.1 (h.trans BitVec.toInt_zero.symm))
  exact ⟨_, _, (Int.tdiv_mul_add_tmod _ _).symm, abs_tmod_lt _ hdivisor, tmod_mul_dividend_nonneg _ _,
    writesGpr_division hk rfl, writesGpr_division hk rfl⟩

/-- Settles O24: the rows by the round trip; by a divisor other than 0 the quotient and remainder of the natural numbers, and by
0 each of the four divisions by the same rule. -/
theorem unsignedDivisionResults : Obligations.UnsignedDivisionResults := by
  refine ⟨row3R_of fun d j k => decodeOfEncode (.divWu d j k) rfl, row3R_of fun d j k => decodeOfEncode (.modWu d j k) rfl,
    fun s rd rj rk => ⟨fun hk => ?_, fun hk => ?_⟩⟩
  · exact ⟨_, _, (Nat.div_add_mod' _ _).symm, Nat.mod_lt _ (BitVec.toNat_pos_of_ne_zero hk),
      writesGpr_division_natCast hk rfl, writesGpr_division_natCast hk rfl⟩
  · simp only [List.forall_mem_cons, List.not_mem_nil, false_imp_iff, implies_true, and_true]
    exact ⟨writesGpr_division_by_zero hk rfl, writesGpr_division_by_zero hk rfl, writesGpr_division_by_zero hk rfl,
      writesGpr_division_by_zero hk rfl⟩

end Sys2Proof.Machine
end

section
/-! PROOFS. Shifts (42_int_shift.md): a shift by bits is the product or the quotient by a power of two, and the register forms
shift by the amount modulo 32. -/

namespace Sys2Proof.Machine

open Sys2Proof.Laws.DecodeEncode (decodeOfEncode)

/-- The bits that a left shift drops are the multiples of 2^32 of the product (R151, R154). -/
theorem sll_eq_mul (v : Word) (n : BitVec 5) : sll v n = BitVec.ofNat 32 (v.toNat * 2 ^ n.toNat) := by
  apply BitVec.eq_of_toNat_eq
  rw [sll, BitVec.toNat_shiftLeft, BitVec.toNat_ofNat, Nat.shiftLeft_eq]

/-- Zeros enter at the top: the floor of the unsigned value over the power (R152, R155). -/
theorem srl_eq_div (v : Word) (n : BitVec 5) : srl v n = BitVec.ofNat 32 (v.toNat / 2 ^ n.toNat) := by
  rw [← Nat.shiftRight_eq_div_pow, ← BitVec.toNat_ushiftRight, BitVec.ofNat_toNat, BitVec.setWidth_eq, srl]

/-- Copies of the sign enter at the top: the floor of the signed value over the power, for a negative value too (R153, R156). -/
theorem sra_eq_div (v : Word) (n : BitVec 5) : sra v n = BitVec.ofInt 32 (v.toInt / 2 ^ n.toNat) := by
  rw [sra, BitVec.sshiftRight, Int.shiftRight_eq_div_pow]
  norm_cast

/-- The low five bits of `x[rk]` are its value modulo 32 (R150). -/
theorem toNat_shiftAmount (rk : RegNo) (s : State) : (shiftAmount rk s).toNat = (readGpr rk s).toNat % 32 := by
  rw [shiftAmount, BitVec.extractLsb'_toNat, Nat.shiftRight_zero]

/-- Settles O25: the rows by the round trip; the immediate forms by the laws of the three shifts, the register forms by the same
laws at the amount `x[rk]` modulo 32. -/
theorem shiftResults : Obligations.ShiftResults := by
  refine ⟨row3R_of fun d j k => decodeOfEncode (.sllW d j k) rfl, row3R_of fun d j k => decodeOfEncode (.srlW d j k) rfl,
    row3R_of fun d j k => decodeOfEncode (.sraW d j k) rfl, row3R_of fun d j i => decodeOfEncode (.slliW d j i) rfl,
    row3R_of fun d j i => decodeOfEncode (.srliW d j i) rfl, row3R_of fun d j i => decodeOfEncode (.sraiW d j i) rfl,
    fun s rd rj rk ui5 => ?_⟩
  rw [← toNat_shiftAmount]
  exact ⟨writesGpr_of rfl (sll_eq_mul _ _), writesGpr_of rfl (srl_eq_div _ _), writesGpr_of rfl (sra_eq_div _ _),
    writesGpr_of rfl (sll_eq_mul _ _), writesGpr_of rfl (srl_eq_div _ _), writesGpr_of rfl (sra_eq_div _ _)⟩

end Sys2Proof.Machine
end

section
/-! PROOFS. Branches and jumps (43_branch.md, 49_fp_move_branch_mem.md section 5): the rows of the formats 1RI21 and I26 from the
round trip of the decoder, and a target from the signed value of its offset. -/

namespace Sys2Proof.Machine

open Sys2Proof.Laws.DecodeEncode (decodeOfEncode)

/-! ### Rows with an offset in two parts (30_encoding.md R100, R101) -/

/-- A word under a mask that covers `w[31:26]` has the opcode of the row. -/
theorem toNat_opcode6 {w mask m : Word} (hm : mask.extractLsb' 26 6 = BitVec.allOnes 6) (hw : w &&& mask = m) :
    (w.extractLsb' 26 6).toNat = (m.extractLsb' 26 6).toNat :=
  congrArg BitVec.toNat (extract_of_mask 26 6 hm hw)

theorem row1RI21_of {m : Word} {i : BitVec 3 → BitVec 21 → Instr}
    (h : ∀ cj o, decode (enc2RI16 (BitVec.ofNat 6 (m.extractLsb' 26 6).toNat) (o.extractLsb' 0 16)
      (flagSlot (m.extractLsb' 8 2) cj) (o.extractLsb' 16 5)) = .ok (i cj o)) : Row1RI21 m i := fun w hw => by
  have hword := enc2RI16_offs21 (toNat_opcode6 (by decide) hw) (extract_of_mask 8 2 (by decide) hw)
  exact (congrArg decode hword.symm).trans (h _ _)

theorem rowI26_of {m : Word} {i : BitVec 26 → Instr}
    (h : ∀ o, decode (enc2RI16 (BitVec.ofNat 6 (m.extractLsb' 26 6).toNat) (o.extractLsb' 0 16) (o.extractLsb' 21 5)
      (o.extractLsb' 16 5)) = .ok (i o)) : RowI26 m i := fun w hw => by
  have hword := enc2RI16_offs26 (toNat_opcode6 (by decide) hw)
  exact (congrArg decode hword.symm).trans (h _)

/-! ### Targets and ends -/

/-- An offset `{imm, 2'b0}`, sign-extended, is 4 times the signed value of `imm` (43_branch.md R160). -/
theorem offset_eq_ofInt {n : Nat} (imm : BitVec n) :
    (imm ++ 0#2 : BitVec (n + 2)).signExtend 32 = BitVec.ofInt 32 (4 * imm.toInt) := by
  rw [BitVec.signExtend, BitVec.toInt_append_zero]
  rfl

/-- A branch goes to `pc + offset` or to `pc + 4`, by its condition, and changes nothing else. -/
theorem jumpsTo_branchIf {i : Instr} {s : State} {taken : Bool} {offset offset' : Word} {cond : Prop} [Decidable cond]
    (h : exec i s = branchIf taken offset s) (ho : offset = offset') (hcond : taken = true ↔ cond) :
    JumpsTo i s (if cond then s.pc + offset' else s.pc + 4) := by
  refine jumpsTo_of ((h.trans (branchIf_eq taken offset s)).trans ?_)
  rw [ho, if_congr hcond rfl rfl]

/-- A meaning that ends in `linkAndJump` writes the link and the pc and nothing else. -/
theorem linksAndJumps_of {i : Instr} {s : State} {rd : RegNo} {target target' : Word}
    (h : exec i s = linkAndJump rd target s) (ht : target = target') : LinksAndJumps i s rd target' :=
  ⟨_, h, ht, fun r => (readGpr_congr (by simp) r).trans (readGpr_writeGpr rd _ s r), fun r => readFpr_congr (by simp) r,
    fun c => readFcc_congr (by simp) c, by simp, by simp, ⟨fun a => byteAt_congr (by simp) a, by simp⟩, by simp, by simp⟩

/-- Settles O26: the rows by the round trip; each branch by its condition on the signed, the unsigned or the flag's value. -/
theorem conditionalBranches : Obligations.ConditionalBranches := by
  refine ⟨row2RI16_of fun d j o => decodeOfEncode (.beq j d o) rfl, row2RI16_of fun d j o => decodeOfEncode (.bne j d o) rfl,
    row2RI16_of fun d j o => decodeOfEncode (.blt j d o) rfl, row2RI16_of fun d j o => decodeOfEncode (.bge j d o) rfl,
    row2RI16_of fun d j o => decodeOfEncode (.bltu j d o) rfl, row2RI16_of fun d j o => decodeOfEncode (.bgeu j d o) rfl,
    row1RI21_of fun cj o => decodeOfEncode (.bceqz cj o) rfl, row1RI21_of fun cj o => decodeOfEncode (.bcnez cj o) rfl, ?_⟩
  rintro s rj rd cj offs16 offs21 _ _ rfl rfl
  have h16 := offset_eq_ofInt offs16
  have h21 := offset_eq_ofInt offs21
  exact ⟨jumpsTo_branchIf rfl h16 beq_iff_eq, jumpsTo_branchIf rfl h16 bne_iff_ne,
    jumpsTo_branchIf rfl h16 BitVec.slt_iff_toInt_lt, jumpsTo_branchIf rfl h16 BitVec.sle_iff_toInt_le,
    jumpsTo_branchIf rfl h16 BitVec.ult_iff_toNat_lt, jumpsTo_branchIf rfl h16 BitVec.ule_iff_toNat_le,
    jumpsTo_branchIf rfl h21 (iff_of_eq (Bool.not_eq_true' _)), jumpsTo_branchIf rfl h21 .rfl⟩

/-- The whole effect of B is on the pc (R167). -/
theorem exec_b (offs26 : BitVec 26) (s : State) :
    exec (.b offs26) s = .next { s with pc := s.pc + offset26 offs26 } := rfl

/-- Settles O27: the rows by the round trip; the targets by the signed value of the offset, the links by `linkAndJump`, which
JIRL gives the old `x[rj]`. -/
theorem jumpsAndLinks : Obligations.JumpsAndLinks := by
  refine ⟨rowI26_of fun o => decodeOfEncode (.b o) rfl, rowI26_of fun o => decodeOfEncode (.bl o) rfl,
    row2RI16_of fun d j o => decodeOfEncode (.jirl d j o) rfl, fun s rd rj offs16 offs26 => ⟨?_, ?_, ?_⟩⟩
  · rw [← offset_eq_ofInt offs26]
    exact jumpsTo_of (exec_b offs26 s)
  · exact linksAndJumps_of rfl (congrArg (s.pc + ·) (offset_eq_ofInt offs26))
  · exact linksAndJumps_of rfl (congrArg (readGpr rj s + ·) (offset_eq_ofInt offs16))

end Sys2Proof.Machine
end

section
/-! PROOFS. Loads, stores, prefetch and barriers (44_load_store.md, 45_atomic_barrier.md, 49_fp_move_branch_mem.md section 6):
the bytes of memory as the number a load reads, low byte first; a store as one of its low bytes alone; and each access as the
guarded one of R80, of which the ends are those of `accessEnds_of`. -/

namespace Sys2Proof.Machine

open Sys2Proof.Laws.DecodeEncode (decodeOfEncode)

/-! ### The number that a load reads (20_memory.md R62) -/

section Bytes
variable {s : State} {a : Word} {byte : Nat → Byte} (hbyte : ∀ k, byte k = byteAt (a + BitVec.ofNat 32 k) s)
include hbyte

theorem toNat_byte (k : Nat) : (byte k).toNat = memRead 1 (a + BitVec.ofNat 32 k) s := by
  rw [hbyte k, memRead, memRead, Nat.mul_zero, Nat.add_zero]

/-- One more byte below those already read: the reading starts one address lower. -/
theorem toNat_append_lower_byte {m n : Nat} {w : BitVec m} (k : Nat)
    (hw : w.toNat = memRead n (a + BitVec.ofNat 32 (k + 1)) s) :
    (w ++ byte k).toNat = memRead (n + 1) (a + BitVec.ofNat 32 k) s := by
  have hnext : a + BitVec.ofNat 32 k + 1 = a + BitVec.ofNat 32 (k + 1) := by bv_omega
  rw [toNat_append_byte, hw, hbyte k, memRead, hnext, Nat.add_comm]

theorem toNat_half : (byte 1 ++ byte 0).toNat = memRead 2 (a + BitVec.ofNat 32 0) s :=
  toNat_append_lower_byte hbyte 0 (toNat_byte hbyte 1)

/-- Four bytes in a row, from any offset: the word that LD.W reads, and the upper half of what FLD.D reads. -/
theorem toNat_word (k : Nat) :
    (byte (k + 3) ++ byte (k + 2) ++ byte (k + 1) ++ byte k).toNat = memRead 4 (a + BitVec.ofNat 32 k) s :=
  toNat_append_lower_byte hbyte k <| toNat_append_lower_byte hbyte (k + 1) <| toNat_append_lower_byte hbyte (k + 2) <|
    toNat_byte hbyte (k + 3)

theorem toNat_doubleword :
    (byte 7 ++ byte 6 ++ byte 5 ++ byte 4 ++ byte 3 ++ byte 2 ++ byte 1 ++ byte 0).toNat =
      memRead 8 (a + BitVec.ofNat 32 0) s :=
  toNat_append_lower_byte hbyte 0 <| toNat_append_lower_byte hbyte 1 <| toNat_append_lower_byte hbyte 2 <|
    toNat_append_lower_byte hbyte 3 <| toNat_word hbyte 4

end Bytes

/-- The bits of the number that was read. -/
theorem ofNat_memRead {m n : Nat} {w : BitVec m} {a : Word} {s : State}
    (hw : w.toNat = memRead n (a + BitVec.ofNat 32 0) s) : BitVec.ofNat m (memRead n a s) = w := by
  rw [BitVec.add_zero] at hw
  rw [← hw, BitVec.ofNat_toNat, BitVec.setWidth_eq]

/-- Settles O28: the rows by the round trip; each load by its destination, with the bytes of memory as the number it reads. -/
theorem loadResults : Obligations.LoadResults := by
  refine ⟨row2RI12_of fun d j i => decodeOfEncode (.ldB d j i) rfl, row2RI12_of fun d j i => decodeOfEncode (.ldH d j i) rfl,
    row2RI12_of fun d j i => decodeOfEncode (.ldW d j i) rfl, row2RI12_of fun d j i => decodeOfEncode (.ldBu d j i) rfl,
    row2RI12_of fun d j i => decodeOfEncode (.ldHu d j i) rfl, row2RI12_of fun d j i => decodeOfEncode (.fldS d j i) rfl,
    row2RI12_of fun d j i => decodeOfEncode (.fldD d j i) rfl, ?_⟩
  rintro s rd rj fd si12 _ byte rfl hbyte
  have hbyte0 := ofNat_memRead (toNat_byte hbyte 0)
  have hhalf := ofNat_memRead (toNat_half hbyte)
  have hword := ofNat_memRead (toNat_word hbyte 0)
  have hdouble := ofNat_memRead (toNat_doubleword hbyte)
  exact ⟨accessEnds_of rfl fun hdone => writesGpr_of hdone (congrArg _ hbyte0),
    accessEnds_of rfl fun hdone => writesGpr_of hdone (congrArg _ hhalf),
    accessEnds_of rfl fun hdone => writesGpr_of hdone hword,
    accessEnds_of rfl fun hdone => writesGpr_of hdone (congrArg _ hbyte0),
    accessEnds_of rfl fun hdone => writesGpr_of hdone (congrArg _ hhalf),
    accessEnds_of rfl fun hdone => writesFprLow_of hdone hword,
    accessEnds_of rfl fun hdone => writesFpr_of hdone hdouble⟩

/-! ### The bytes that a store writes -/

/-- Only the low `n` bytes of the number are written (20_memory.md R62). -/
theorem write_low_bytes (n : Nat) (a : Word) (v : Nat) (m : Memory) :
    Memory.write n a (v % 256 ^ n) m = Memory.write n a v m := by
  induction n generalizing a v m with
  | zero => rfl
  | succ n ih =>
    have hlow : BitVec.ofNat 8 (v % 256 ^ (n + 1)) = BitVec.ofNat 8 v := by
      apply BitVec.eq_of_toNat_eq
      rw [BitVec.toNat_ofNat, BitVec.toNat_ofNat]
      exact Nat.mod_mod_of_dvd v (Dvd.intro_left (256 ^ n) rfl)
    have hrest : v % 256 ^ (n + 1) / 256 = v / 256 % 256 ^ n := by
      rw [Nat.pow_succ', Nat.mod_mul_right_div_self]
    rw [Memory.write, Memory.write, hlow, hrest, ih]

theorem storeAccess_low_bytes (n : Nat) (a : Word) (v : Nat) (s : State) :
    storeAccess n a (v % 256 ^ n) s = storeAccess n a v s := by
  rw [storeAccess, storeAccess, memWrite, memWrite, write_low_bytes]

/-- What is stored depends on memory and `dirty` alone. -/
theorem BytesStored.congr {n : Nat} {base : Word} {v : DWord} {s t u : State} (h : BytesStored n base v s t)
    (hm : u.mem = t.mem) (hd : u.dirty = t.dirty) : BytesStored n base v s u := by
  obtain ⟨hstored, hkept, hdirty⟩ := h
  exact ⟨fun i hi => (byteAt_congr hm _).trans (hstored i hi), fun a ha => (byteAt_congr hm a).trans (hkept a ha),
    fun a => hd ▸ hdirty a⟩

/-- A meaning that ends by storing the low bytes of `v`. -/
theorem storesBytes_of {i : Instr} {s : State} {n : Nat} {a : Word} {v : DWord} (hn : n ≤ 8)
    (h : exec i s = .next (advance (memWrite n a v.toNat s))) : StoresBytes i s n a v :=
  ⟨_, h, (bytesStored_memWrite n hn a v s).congr (advance_mem _) (advance_dirty _), by simp,
    fun r => readGpr_congr (by simp) r, fun r => readFpr_congr (by simp) r, fun c => readFcc_congr (by simp) c, by simp, by simp,
    by simp, by simp⟩

/-- The ends of a store, for a value with the low bytes of the number stored. -/
theorem accessEnds_store {i : Instr} {s : State} {n : Nat} {vaddr : Word} {v : DWord} {w : Nat} (hn : n ≤ 8)
    (h : exec i s = storeAccess n vaddr w s) (hw : w % 256 ^ n = v.toNat % 256 ^ n) :
    AccessEnds i s n vaddr (StoresBytes i s n vaddr v) := by
  rw [← storeAccess_low_bytes, hw, storeAccess_low_bytes] at h
  exact accessEnds_of h (storesBytes_of hn)

/-- The low half of `f[fd]` is its value modulo 2^32 (10_state.md R30). -/
theorem toNat_readFprLow (fd : FprNo) (s : State) : (readFprLow fd s).toNat = (readFpr fd s).toNat % 256 ^ 4 := by
  rw [← readFpr_low, BitVec.extractLsb'_toNat, Nat.shiftRight_zero]
  rfl

/-- Settles O29: the rows by the round trip; each store by its low bytes, those of `x[rd]` for a general register, and for FST.S
those of all of `f[fd]`. -/
theorem storeResults : Obligations.StoreResults := by
  refine ⟨row2RI12_of fun d j i => decodeOfEncode (.stB d j i) rfl, row2RI12_of fun d j i => decodeOfEncode (.stH d j i) rfl,
    row2RI12_of fun d j i => decodeOfEncode (.stW d j i) rfl, row2RI12_of fun d j i => decodeOfEncode (.fstS d j i) rfl,
    row2RI12_of fun d j i => decodeOfEncode (.fstD d j i) rfl, ?_⟩
  rintro s rd rj fd si12 _ rfl
  have hgpr : (readGpr rd s).toNat = ((readGpr rd s).setWidth 64).toNat := (BitVec.toNat_setWidth_of_le (by decide)).symm
  refine ⟨accessEnds_store (by decide) rfl (congrArg (· % 256 ^ 1) hgpr),
    accessEnds_store (by decide) rfl (congrArg (· % 256 ^ 2) hgpr),
    accessEnds_store (by decide) rfl (congrArg (· % 256 ^ 4) hgpr), accessEnds_store (by decide) rfl ?_,
    accessEnds_store (by decide) rfl rfl⟩
  rw [toNat_readFprLow, Nat.mod_mod]

/-! ### Prefetch and barriers -/

/-- Neither the hint nor the address of PRELD matters, not even a misaligned or unmapped one (R184). -/
theorem exec_preld (hint : BitVec 5) (rj : RegNo) (si12 : BitVec 12) (s : State) :
    exec (.preld hint rj si12) s = .next (advance s) := rfl

theorem exec_dbar (hint : BitVec 15) (s : State) : exec (.dbar hint) s = .next (advance s) := rfl

theorem exec_ibar (hint : BitVec 15) (s : State) : exec (.ibar hint) s = .next (advance { s with dirty := [] }) := rfl

/-- Settles O30: the rows by the round trip; PRELD and DBAR by the pc alone, IBAR by `dirty` and the pc. -/
theorem prefetchAndBarriers : Obligations.PrefetchAndBarriers := by
  refine ⟨row2RI12_of fun d j i => decodeOfEncode (.preld d j i) rfl, rowCode15_of fun c => decodeOfEncode (.dbar c) rfl,
    rowCode15_of fun c => decodeOfEncode (.ibar c) rfl, fun s hint5 hint rj si12 => ?_⟩
  exact ⟨jumpsTo_of (exec_preld hint5 rj si12 s), jumpsTo_of (exec_dbar hint s), exec_ibar hint s⟩

end Sys2Proof.Machine
end

section
/-! PROOFS. LL.W, SC.W and LLbit (45_atomic_barrier.md): what each completed instruction leaves of LLbit, and the two link
instructions as guarded accesses of R80, SC.W with the state before LLbit is cleared named `conditionalStore`. -/

namespace Sys2Proof.Machine

open Sys2Proof.Laws.DecodeEncode (decodeOfEncode)

/-! ### LLbit after the boundary and after each instruction (R192) -/

/-- The boundary touches LLbit and the count of draws alone. -/
theorem boundary_frame (s : State) : boundary s = { s with llbit := (boundary s).llbit, draws := (boundary s).draws } := by
  unfold boundary
  split <;> rfl

section LinkBit
variable {s t : State}

/-- A guarded access that completes leaves the LLbit of its end. -/
theorem guardAccess_next_llbit {n : Nat} {a : Word} {u : State} {b : Bool} (h : guardAccess n a s (.next u) = .next t)
    (hu : u.llbit = b) : t.llbit = b := by
  obtain ⟨-, -, hdone⟩ := guardAccess_next h
  cases hdone
  exact hu

/-- Of the instructions that write storage at all, the stores and IBAR keep LLbit as well. -/
theorem exec_next_llbit_of_not_link {i : Instr} (h : exec i s = .next t) (hll : isLoadLinked i = false)
    (hsc : isStoreConditional i = false) : t.llbit = s.llbit := by
  cases hi : writesStorage i with
  | false =>
    obtain ⟨-, -, hlink⟩ := exec_keepsStorage hi t h
    exact hlink
  | true =>
    cases i with
    | llW => cases hll
    | scW => cases hsc
    | stB | stH | stW | fstS | fstD => exact guardAccess_next_llbit h rfl
    | ibar => cases h; rfl
    | _ => cases hi

end LinkBit

/-- Settles O8: the boundary by its two branches; execution by the two link instructions, and the others, which keep LLbit. -/
theorem linkBitChanges : Obligations.LinkBitChanges := by
  refine ⟨fun s => ⟨boundary_frame s, llbit_of_boundary_llbit⟩, fun i s t h => ⟨fun hll => ?_, fun hsc => ?_, ?_⟩⟩
  · cases i with
    | llW => exact guardAccess_next_llbit h rfl
    | _ => cases hll
  · cases i with
    | scW => exact guardAccess_next_llbit h rfl
    | _ => cases hsc
  · exact exec_next_llbit_of_not_link h

/-! ### LL.W (R190) -/

/-- The address of LL.W and SC.W from the signed value of the offset. -/
theorem vaddr14_eq (rj : RegNo) (si14 : BitVec 14) (s : State) :
    vaddr14 rj si14 s = readGpr rj s + BitVec.ofInt 32 (4 * si14.toInt) :=
  congrArg (readGpr rj s + ·) (offset_eq_ofInt si14)

/-- A general register is written also where the updates before and after it leave the general registers alone. -/
theorem gprWritten_of_x {rd : RegNo} {v : Word} {s u t : State} (hu : u.x = s.x) (ht : t.x = (writeGpr rd v u).x) :
    GprWritten rd v s t := fun r => by
  rw [readGpr_congr ht, readGpr_writeGpr, readGpr_congr hu]

/-- Settles O31: the row by the round trip; the load by the bytes of memory as the number it reads, with LLbit set after it. -/
theorem loadLinkedResult : Obligations.LoadLinkedResult := by
  refine ⟨row2RI14_of fun d j i => decodeOfEncode (.llW d j i) rfl, fun s rd rj si14 vaddr byte hvaddr hbyte => ?_⟩
  obtain rfl : vaddr = vaddr14 rj si14 s := hvaddr.trans (vaddr14_eq rj si14 s).symm
  refine accessEnds_of rfl fun hdone => ⟨_, hdone, ?_, rfl, by simp, fun r => readFpr_congr (by simp) r,
    fun c => readFcc_congr (by simp) c, by simp, ⟨fun a => byteAt_congr (by simp) a, by simp⟩, by simp, by simp⟩
  rw [← ofNat_memRead (toNat_word hbyte 0)]
  exact gprWritten_of_x (u := s) rfl rfl

/-! ### SC.W (R191) -/

/-- What SC.W does at a mapped address before it clears LLbit: the store and the success flag. -/
def conditionalStore (rd : RegNo) (a : Word) (s : State) : State :=
  if s.llbit then writeGpr rd 1 (memWrite 4 a (readGpr rd s).toNat s) else writeGpr rd 0 s

theorem exec_scW_eq (rd rj : RegNo) (si14 : BitVec 14) (s : State) : exec (.scW rd rj si14) s =
    guardAccess 4 (vaddr14 rj si14 s) s (.next (advance (setLlbit false (conditionalStore rd (vaddr14 rj si14 s) s)))) := rfl

section ConditionalStore
variable {s : State} (rd : RegNo) (a : Word)

theorem conditionalStore_linked (h : s.llbit = true) :
    conditionalStore rd a s = writeGpr rd 1 (memWrite 4 a (readGpr rd s).toNat s) := if_pos h

theorem conditionalStore_unlinked (h : s.llbit = false) : conditionalStore rd a s = writeGpr rd 0 s := by
  simp [conditionalStore, h]

/-- With either LLbit only the general registers, memory and `dirty` may change. -/
theorem conditionalStore_frame (s : State) : (conditionalStore rd a s).pc = s.pc ∧ (conditionalStore rd a s).f = s.f ∧
    (conditionalStore rd a s).fcc = s.fcc ∧ (conditionalStore rd a s).fcsr0 = s.fcsr0 ∧
    (conditionalStore rd a s).plv = s.plv ∧ (conditionalStore rd a s).memMap = s.memMap := by
  unfold conditionalStore
  split <;> simp

/-- With LLbit 1 the value stored is that of `x[rd]` before it becomes 1. -/
theorem conditionalStore_stores (h : s.llbit = true) {t : State} (hx : t.x = (conditionalStore rd a s).x)
    (hm : t.mem = (conditionalStore rd a s).mem) (hd : t.dirty = (conditionalStore rd a s).dirty) :
    GprWritten rd 1 s t ∧ BytesStored 4 a ((readGpr rd s).setWidth 64) s t := by
  rw [conditionalStore_linked rd a h] at hx hm hd
  have hstored := bytesStored_memWrite 4 (by decide) a ((readGpr rd s).setWidth 64) s
  rw [BitVec.toNat_setWidth_of_le (by decide)] at hstored
  exact ⟨gprWritten_of_x (memWrite_x 4 a _ s) hx,
    hstored.congr (hm.trans (writeGpr_mem _ _ _)) (hd.trans (writeGpr_dirty _ _ _))⟩

/-- With LLbit 0 nothing is stored. -/
theorem conditionalStore_fails (h : s.llbit = false) {t : State} (hx : t.x = (conditionalStore rd a s).x)
    (hm : t.mem = (conditionalStore rd a s).mem) (hd : t.dirty = (conditionalStore rd a s).dirty) :
    GprWritten rd 0 s t ∧ MemKept s t := by
  rw [conditionalStore_unlinked rd a h] at hx hm hd
  exact ⟨gprWritten_of_x (u := s) rfl hx, fun b => byteAt_congr (hm.trans (writeGpr_mem _ _ _)) b,
    hd.trans (writeGpr_dirty _ _ _)⟩

end ConditionalStore

/-- Settles O32: the row by the round trip; the guard comes before `conditionalStore`, which alone reads LLbit. -/
theorem storeConditionalResult : Obligations.StoreConditionalResult := by
  refine ⟨row2RI14_of fun d j i => decodeOfEncode (.scW d j i) rfl, fun s rd rj si14 vaddr hvaddr => ?_⟩
  obtain rfl : vaddr = vaddr14 rj si14 s := hvaddr.trans (vaddr14_eq rj si14 s).symm
  obtain ⟨hpc, hf, hfcc, hfcsr, hplv, hmap⟩ := conditionalStore_frame rd (vaddr14 rj si14 s) s
  exact accessEnds_of (exec_scW_eq rd rj si14 s) fun hdone => ⟨_, hdone,
    fun hl => conditionalStore_stores rd _ hl rfl rfl rfl, fun hl => conditionalStore_fails rd _ hl rfl rfl rfl, rfl,
    congrArg (· + 4) hpc, readFpr_congr hf, readFcc_congr hfcc, hfcsr, hplv, hmap⟩

end Sys2Proof.Machine
end

section
/-! PROOFS. System instructions (46_system_privileged.md): the words whose row fixes a register slot as well as the opcode, the
counter reads, and the ends of a privileged word at the two levels. -/

namespace Sys2Proof.Machine

open Sys2Proof.Laws.DecodeEncode (decodeOfEncode)

/-! ### SYSCALL and BREAK (R200, R201) -/

theorem exec_syscall (code : BitVec 15) (s : State) : exec (.syscall code) s = .fault (.sys code s) := rfl

theorem exec_brk (code : BitVec 15) (s : State) : exec (.brk code) s = .fault (.brk code s) := rfl

/-- Settles O33: the rows by the round trip; both meanings raise in every state. -/
theorem syscallAndBreakTrap : Obligations.SyscallAndBreakTrap :=
  ⟨rowCode15_of fun c => decodeOfEncode (.syscall c) rfl, rowCode15_of fun c => decodeOfEncode (.brk c) rfl,
    fun s code => ⟨exec_syscall code s, exec_brk code s⟩⟩

/-! ### Rows that fix a register slot -/

/-- The round trip from the word. -/
theorem decode_of_word {w : Word} {i : Instr} (hword : w = encode i) (hi : i.wellFormed = true) : decode w = .ok i :=
  hword ▸ decodeOfEncode i hi

section FixedSlots
variable {w m : Word}

theorem enc2R_split_opcode_j {op : BitVec 22} {j : BitVec 5} (hw : w &&& 0xFFFFFFE0#32 = m)
    (hop : m.extractLsb' 10 22 = op) (hj : m.extractLsb' 5 5 = j) : w = enc2R op j (w.extractLsb' 0 5) := by
  rw [← hop, ← hj, ← extract_of_mask 10 22 (by decide) hw, ← extract_of_mask 5 5 (by decide) hw, ← enc2R_split]

theorem enc2R_split_opcode_d {op : BitVec 22} {d : BitVec 5} (hw : w &&& 0xFFFFFC1F#32 = m)
    (hop : m.extractLsb' 10 22 = op) (hd : m.extractLsb' 0 5 = d) : w = enc2R op (w.extractLsb' 5 5) d := by
  rw [← hop, ← hd, ← extract_of_mask 10 22 (by decide) hw, ← extract_of_mask 0 5 (by decide) hw, ← enc2R_split]

theorem enc2RI14_split_opcode {op : BitVec 8} (hw : w &&& 0xFF000000#32 = m) (hop : m.extractLsb' 24 8 = op) :
    w = enc2RI14 op (w.extractLsb' 10 14) (w.extractLsb' 5 5) (w.extractLsb' 0 5) := by
  rw [← hop, ← extract_of_mask 24 8 (by decide) hw, ← enc2RI14_split]

theorem enc2RI14_split_opcode_j {op : BitVec 8} {j : BitVec 5} (hw : w &&& 0xFF0003E0#32 = m)
    (hop : m.extractLsb' 24 8 = op) (hj : m.extractLsb' 5 5 = j) :
    w = enc2RI14 op (w.extractLsb' 10 14) j (w.extractLsb' 0 5) := by
  rw [← hop, ← hj, ← extract_of_mask 24 8 (by decide) hw, ← extract_of_mask 5 5 (by decide) hw, ← enc2RI14_split]

end FixedSlots

/-! ### The counter reads (R202 to R206) -/

/-- RDCNTVL.W to r0 is the only one with the word of RDCNTID from r0 (30_encoding.md R107). -/
theorem rdcntvlW_wellFormed_of_ne {rd : RegNo} (h : encode (.rdcntvlW rd) ≠ 0x00006000#32) :
    (Instr.rdcntvlW rd).wellFormed = true := by
  have hzero : rd ≠ 0 := by
    rintro rfl
    exact h rfl
  simpa [Instr.wellFormed, rdcntvlOperandOk] using hzero

theorem decode_rdcntvlW {w : Word} (hne : w ≠ 0x00006000#32) (hw : w &&& 0xFFFFFFE0#32 = 0x00006000#32) :
    decode w = .ok (.rdcntvlW (w.extractLsb' 0 5)) := by
  have hword : w = encode (.rdcntvlW (w.extractLsb' 0 5)) := enc2R_split_opcode_j hw rfl rfl
  exact decode_of_word hword (rdcntvlW_wellFormed_of_ne (hword ▸ hne))

/-- A write to r0 is discarded, so an instruction that writes only r0 only advances the pc (10_state.md R21). -/
theorem jumpsTo_of_writesGpr_zero {i : Instr} {s : State} {v : Word} (h : WritesGpr i s 0 v) : JumpsTo i s (s.pc + 4) := by
  obtain ⟨t, hexec, hgpr, hpc, hrest⟩ := h
  exact ⟨t, hexec, hpc, fun r => (hgpr r).trans (if_neg fun hr => hr.2 hr.1), hrest⟩

theorem rdcntvlW_writesGpr (rd : RegNo) (s : State) : ∃ v, WritesGpr (.rdcntvlW rd) s rd v := writesGpr_draw rfl

theorem rdcntvhW_writesGpr (rd : RegNo) (s : State) : ∃ v, WritesGpr (.rdcntvhW rd) s rd v := writesGpr_draw rfl

theorem rdcntid_writesGpr (rj : RegNo) (s : State) : WritesGpr (.rdcntid rj) s rj Config.counterId := writesGpr_of rfl rfl

/-- Settles O34: the rows by the round trip; the word that two rows match writes r0 under either reading. -/
theorem counterReads : Obligations.CounterReads := by
  refine ⟨fun w => decode_rdcntvlW, fun w hw => decode_of_word (enc2R_split_opcode_j hw rfl rfl) rfl,
    fun w hw => decode_of_word (enc2R_split_opcode_d hw rfl rfl) rfl, fun s => ⟨?_, ?_⟩,
    fun s r => ⟨rdcntvlW_writesGpr r s, rdcntvhW_writesGpr r s, rdcntid_writesGpr r s⟩⟩
  · exact jumpsTo_of_writesGpr_zero (rdcntid_writesGpr 0 s)
  · obtain ⟨v, hv⟩ := rdcntvlW_writesGpr 0 s
    exact jumpsTo_of_writesGpr_zero hv

/-! ### Words without semantics in the source (R207 to R218) -/

/-- The refusal at PLV0 carries the word, as IPE does at PLV3. -/
theorem runWord_privileged_plv0 {w : Word} {i : Instr} {s : State} (hdec : decode w = .ok i) (hi : privileged i = true)
    (hs : s.plv = .plv0) : runWord exec w s = .refused (.noSemantics w) := by
  rw [runWord_ok hdec, exec_privileged hi, privilegedOnly_plv0 hs, encode_of_decode hdec]

theorem exec_cacop (code : BitVec 5) (rj : RegNo) (si12 : BitVec 12) (s : State) :
    exec (.cacop code rj si12) s = .refused (.noSemantics (encode (.cacop code rj si12))) := rfl

theorem decode_idle : RowCode15 0x06488000#32 .idle := rowCode15_of fun level => decodeOfEncode (.idle level) rfl

theorem decode_invtlb : Row3R 0x06498000#32 .invtlb := row3R_of fun op j k => decodeOfEncode (.invtlb op j k) rfl

theorem decode_cacop : Row2RI12 0x06000000#32 .cacop := row2RI12_of fun c j i => decodeOfEncode (.cacop c j i) rfl

/-- The word is read as one of the ten privileged instructions (60_exceptions.md R372). -/
def ReadsPrivileged (w : Word) : Prop := ∃ i, decode w = .ok i ∧ privileged i = true

section ReadsPrivileged
variable {w : Word}

theorem readsPrivileged_csrrd (hw : w &&& 0xFF0003E0#32 = 0x04000000#32) : ReadsPrivileged w :=
  ⟨.csrrd (w.extractLsb' 0 5) (w.extractLsb' 10 14), decode_of_word (enc2RI14_split_opcode_j hw rfl rfl) rfl, rfl⟩

theorem readsPrivileged_csrwr (hw : w &&& 0xFF0003E0#32 = 0x04000020#32) : ReadsPrivileged w :=
  ⟨.csrwr (w.extractLsb' 0 5) (w.extractLsb' 10 14), decode_of_word (enc2RI14_split_opcode_j hw rfl rfl) rfl, rfl⟩

/-- With `rj` 0 or 1 the word would be CSRRD or CSRWR (R210). -/
theorem csrxchg_wellFormed_of_le {rd rj : RegNo} {csr : BitVec 14} (h : 2 ≤ rj.toNat) :
    (Instr.csrxchg rd rj csr).wellFormed = true := by
  have h0 : rj ≠ 0 := by bv_omega
  have h1 : rj ≠ 1 := by bv_omega
  simpa [Instr.wellFormed, csrxchgOperandOk] using ⟨h0, h1⟩

theorem readsPrivileged_csrxchg (hw : w &&& 0xFF000000#32 = 0x04000000#32) (hj : 2 ≤ (w.extractLsb' 5 5).toNat) :
    ReadsPrivileged w :=
  ⟨.csrxchg (w.extractLsb' 0 5) (w.extractLsb' 5 5) (w.extractLsb' 10 14),
    decode_of_word (enc2RI14_split_opcode hw rfl) (csrxchg_wellFormed_of_le hj), rfl⟩

theorem readsPrivileged_idle (hw : w &&& 0xFFFF8000#32 = 0x06488000#32) : ReadsPrivileged w :=
  ⟨.idle (w.extractLsb' 0 15), decode_idle w hw, rfl⟩

theorem readsPrivileged_invtlb (hw : w &&& 0xFFFF8000#32 = 0x06498000#32) : ReadsPrivileged w :=
  ⟨.invtlb (w.extractLsb' 0 5) (w.extractLsb' 5 5) (w.extractLsb' 10 5), decode_invtlb w hw, rfl⟩

end ReadsPrivileged

/-- Settles O35: each of the ten rows reads a privileged instruction, whose ends carry the word it was read from. -/
theorem privilegedWords : Obligations.PrivilegedWords := by
  refine fun w s => ⟨fun hrows => ?_, fun hw => ?_⟩
  · have hreads : ReadsPrivileged w := by
      rcases hrows with h | h | ⟨h, hj⟩ | rfl | rfl | rfl | rfl | rfl | h | h
      · exact readsPrivileged_csrrd h
      · exact readsPrivileged_csrwr h
      · exact readsPrivileged_csrxchg h hj
      · exact ⟨_, decodeOfEncode .tlbsrch rfl, rfl⟩
      · exact ⟨_, decodeOfEncode .tlbrd rfl, rfl⟩
      · exact ⟨_, decodeOfEncode .tlbwr rfl, rfl⟩
      · exact ⟨_, decodeOfEncode .tlbfill rfl, rfl⟩
      · exact ⟨_, decodeOfEncode .ertn rfl, rfl⟩
      · exact readsPrivileged_idle h
      · exact readsPrivileged_invtlb h
    obtain ⟨i, hdec, hi⟩ := hreads
    exact ⟨runWord_privileged hdec hi, runWord_privileged_plv0 hdec hi⟩
  · have hdec := decode_cacop w hw
    rw [runWord_ok hdec, exec_cacop, encode_of_decode hdec]

end Sys2Proof.Machine
end

section
/-! PROOFS. Floating-point arithmetic as instructions (47_fp_arith.md): the end of every `.S` and `.D` operation by R233, said
once for all of them, with the bits of a quiet NaN; and the sign operations. -/

namespace Sys2Proof.Machine

open Sys2Proof.Laws.DecodeEncode (decodeOfEncode)

/-! ### Results of the two formats (R234, R235) -/

/-- `S(i)` (R230) from the whole register. -/
theorem operandS_eq (r : FprNo) (s : State) : operandS r s = ((readFpr r s).extractLsb' 0 32).setWidth 64 := by
  rw [readFpr_low, operandS]

/-- A quiet NaN of binary32 has the exponent field of ones and the leading fraction bit 1 (R234). -/
theorem value_quietNan_single {o : FpOut} (h : o.res = .quietNan) (op : FpOp) (rm : BitVec 2) (a b c : DWord) :
    ((o.value op .single rm a b c).extractLsb' 0 32).extractLsb' 22 9 = 0x1FF#9 := by
  ext i hi
  simp only [FpOut.value, h, BitVec.getElem_extractLsb', BitVec.getLsbD_extractLsb', BitVec.getLsbD_append]
  interval_cases i <;> simp

/-- The same of binary64 (R234). -/
theorem value_quietNan_double {o : FpOut} (h : o.res = .quietNan) (op : FpOp) (rm : BitVec 2) (a b c : DWord) :
    (o.value op .double rm a b c).extractLsb' 51 12 = 0xFFF#12 := by
  ext i hi
  simp only [FpOut.value, h, BitVec.getElem_extractLsb', BitVec.getLsbD_append]
  interval_cases i <;> simp

theorem value_bits {o : FpOut} {w : DWord} (h : o.res = .bits w) (op : FpOp) (fmt : FpFormat) (rm : BitVec 2)
    (a b c : DWord) : o.value op fmt rm a b c = w := by
  simp only [FpOut.value, h]

section Ends
variable {i : Instr} {s : State} {op : FpOp} {fd : FprNo} {a b c : DWord} {out : FpOut}

/-- The end of every `.S` operation: R233 with the result in the low half (R235). -/
theorem endsByR233_fpResultS (h : exec i s = fpResultS op fd a b c out s) :
    EndsByR233 i s out.exc (ResultS fd out.res) := by
  refine endsByR233_of h fun u hu =>
    ⟨⟨fun r => ?_, (out.value op .single (roundingBits s) a b c).extractLsb' 0 32, ⟨?_, fun r hr => ?_⟩, ?_⟩,
      rfl, rfl, rfl, rfl, rfl, rfl, rfl, rfl⟩
  · exact readFcc_congr (by simp [hu]) r
  · exact (fprLowWritten_writeFprLow fd _ u).1
  · exact ((fprLowWritten_writeFprLow fd _ u).2 r hr).trans (readFpr_congr (by simp [hu]) r)
  · cases hres : out.res with
    | bits w => exact congrArg _ (value_bits hres op .single _ a b c)
    | quietNan => exact value_quietNan_single hres op _ a b c

/-- The end of every `.D` operation: R233 with the result in all 64 bits (R235). -/
theorem endsByR233_fpResultD (h : exec i s = fpResultD op fd a b c out s) :
    EndsByR233 i s out.exc (ResultD fd out.res) := by
  refine endsByR233_of h fun u hu =>
    ⟨⟨fun r => ?_, out.value op .double (roundingBits s) a b c, fun r => ?_, ?_⟩, rfl, rfl, rfl, rfl, rfl, rfl, rfl, rfl⟩
  · exact readFcc_congr (by simp [hu]) r
  · exact (readFpr_writeFpr fd _ u r).trans (by rw [readFpr_congr (s := s) (t := u) (by simp [hu])])
  · cases hres : out.res with
    | bits w => exact value_bits hres op .double _ a b c
    | quietNan => exact value_quietNan_double hres op _ a b c

end Ends

/-! ### The obligations on encoding and end -/

/-- Settles O36: the rows by the round trip, each end by that of its format. -/
theorem arithmeticEndsByR233 : Obligations.ArithmeticEndsByR233 := by
  refine ⟨row3R_of fun d j k => decodeOfEncode (.faddS d j k) rfl, row3R_of fun d j k => decodeOfEncode (.faddD d j k) rfl,
    row3R_of fun d j k => decodeOfEncode (.fsubS d j k) rfl, row3R_of fun d j k => decodeOfEncode (.fsubD d j k) rfl,
    row3R_of fun d j k => decodeOfEncode (.fmulS d j k) rfl, row3R_of fun d j k => decodeOfEncode (.fmulD d j k) rfl,
    row3R_of fun d j k => decodeOfEncode (.fdivS d j k) rfl, row3R_of fun d j k => decodeOfEncode (.fdivD d j k) rfl, ?_⟩
  rintro s fd fj fk a b ha hb
  rw [← operandS_eq] at ha hb
  subst ha hb
  exact ⟨endsByR233_fpResultS rfl, endsByR233_fpResultS rfl, endsByR233_fpResultS rfl, endsByR233_fpResultS rfl,
    endsByR233_fpResultD rfl, endsByR233_fpResultD rfl, endsByR233_fpResultD rfl, endsByR233_fpResultD rfl⟩

/-- The outer negation of FNMADD and FNMSUB raises nothing (R237). -/
theorem negated_exc (fmt : FpFormat) (o : FpOut) : (o.negated fmt).exc = o.exc := by
  rw [FpOut.negated]
  split <;> rfl

/-- Settles O37: the rows by the round trip, each end by that of its format; the outer negation keeps the exceptions. -/
theorem fusedEndsByR233 : Obligations.FusedEndsByR233 := by
  refine ⟨row4R_of fun d j k a => decodeOfEncode (.fmaddS d j k a) rfl,
    row4R_of fun d j k a => decodeOfEncode (.fmaddD d j k a) rfl,
    row4R_of fun d j k a => decodeOfEncode (.fmsubS d j k a) rfl,
    row4R_of fun d j k a => decodeOfEncode (.fmsubD d j k a) rfl,
    row4R_of fun d j k a => decodeOfEncode (.fnmaddS d j k a) rfl,
    row4R_of fun d j k a => decodeOfEncode (.fnmaddD d j k a) rfl,
    row4R_of fun d j k a => decodeOfEncode (.fnmsubS d j k a) rfl,
    row4R_of fun d j k a => decodeOfEncode (.fnmsubD d j k a) rfl, ?_⟩
  rintro s fd fj fk fa a b c _ _ _ ha hb hc rfl rfl rfl
  rw [← operandS_eq] at ha hb hc
  subst ha hb hc
  refine ⟨endsByR233_fpResultS rfl, endsByR233_fpResultS rfl, ?_, ?_, endsByR233_fpResultD rfl, endsByR233_fpResultD rfl,
    ?_, ?_⟩
  · rw [← negated_exc .single]; exact endsByR233_fpResultS rfl
  · rw [← negated_exc .single]; exact endsByR233_fpResultS rfl
  · rw [← negated_exc .double]; exact endsByR233_fpResultD rfl
  · rw [← negated_exc .double]; exact endsByR233_fpResultD rfl

/-- Settles O38: the rows by the round trip, each end by that of its format. -/
theorem maxMinEndsByR233 : Obligations.MaxMinEndsByR233 := by
  refine ⟨row3R_of fun d j k => decodeOfEncode (.fmaxS d j k) rfl, row3R_of fun d j k => decodeOfEncode (.fmaxD d j k) rfl,
    row3R_of fun d j k => decodeOfEncode (.fminS d j k) rfl, row3R_of fun d j k => decodeOfEncode (.fminD d j k) rfl,
    row3R_of fun d j k => decodeOfEncode (.fmaxaS d j k) rfl, row3R_of fun d j k => decodeOfEncode (.fmaxaD d j k) rfl,
    row3R_of fun d j k => decodeOfEncode (.fminaS d j k) rfl, row3R_of fun d j k => decodeOfEncode (.fminaD d j k) rfl, ?_⟩
  rintro s fd fj fk a b _ _ ha hb rfl rfl
  rw [← operandS_eq] at ha hb
  subst ha hb
  exact ⟨endsByR233_fpResultS rfl, endsByR233_fpResultS rfl, endsByR233_fpResultS rfl, endsByR233_fpResultS rfl,
    endsByR233_fpResultD rfl, endsByR233_fpResultD rfl, endsByR233_fpResultD rfl, endsByR233_fpResultD rfl⟩

/-- FRSQRT of an operand with a root: the quotient of 1.0 by the root, the exceptions of both (R272). -/
theorem fpRsqrt_of_bits {fmt : FpFormat} {env : FpEnv} {a t : DWord} (h : (fpSqrt fmt env a).res = .bits t) :
    fpRsqrt fmt env a =
      ⟨(fpDiv fmt env (fpOne fmt) t).res, (fpSqrt fmt env a).exc ||| (fpDiv fmt env (fpOne fmt) t).exc⟩ := by
  simp only [fpRsqrt, h]

/-- FRSQRT of an operand without a root is what the root gives (R272). -/
theorem fpRsqrt_of_quietNan {fmt : FpFormat} {env : FpEnv} {a : DWord} (h : (fpSqrt fmt env a).res = .quietNan) :
    fpRsqrt fmt env a = fpSqrt fmt env a := by
  simp only [fpRsqrt, h]

theorem frsqrtS_ends (s : State) (fd fj : FprNo) : EndsByR233 (.frsqrtS fd fj) s
    (fpRsqrt .single (fpEnv s) (operandS fj s)).exc (ResultS fd (fpRsqrt .single (fpEnv s) (operandS fj s)).res) :=
  endsByR233_fpResultS rfl

theorem frsqrtD_ends (s : State) (fd fj : FprNo) : EndsByR233 (.frsqrtD fd fj) s
    (fpRsqrt .double (fpEnv s) (operandD fj s)).exc (ResultD fd (fpRsqrt .double (fpEnv s) (operandD fj s)).res) :=
  endsByR233_fpResultD rfl

/-- Settles O39: the rows by the round trip, each end by that of its format; FRSQRT by whether the root is a number. -/
theorem rootAndReciprocalEndByR233 : Obligations.RootAndReciprocalEndByR233 := by
  refine ⟨row2R_of fun d j => decodeOfEncode (.fsqrtS d j) rfl, row2R_of fun d j => decodeOfEncode (.fsqrtD d j) rfl,
    row2R_of fun d j => decodeOfEncode (.frecipS d j) rfl, row2R_of fun d j => decodeOfEncode (.frecipD d j) rfl,
    row2R_of fun d j => decodeOfEncode (.frsqrtS d j) rfl, row2R_of fun d j => decodeOfEncode (.frsqrtD d j) rfl, ?_⟩
  rintro s fd fj a _ ha rfl
  rw [← operandS_eq] at ha
  subst ha
  refine ⟨endsByR233_fpResultS rfl, endsByR233_fpResultD rfl, endsByR233_fpResultS rfl, endsByR233_fpResultD rfl,
    fun t ht => ?_, fun hnan => ?_, fun t ht => ?_, fun hnan => ?_⟩
  · have hends := frsqrtS_ends s fd fj
    rwa [fpRsqrt_of_bits ht] at hends
  · have hends := frsqrtS_ends s fd fj
    rwa [fpRsqrt_of_quietNan hnan, hnan] at hends
  · have hends := frsqrtD_ends s fd fj
    rwa [operandD, fpRsqrt_of_bits ht] at hends
  · have hends := frsqrtD_ends s fd fj
    rwa [operandD, fpRsqrt_of_quietNan hnan, hnan] at hends

/-! ### Sign operations (R264 to R267, R274, R275) -/

section SignBit
variable {n : Nat} (x y : BitVec (1 + n))

theorem getLsbD_signBit {i : Nat} (hi : i < 1 + n) : (BitVec.ofNat (1 + n) (2 ^ n)).getLsbD i = decide (n = i) := by
  rw [BitVec.getLsbD_ofNat, Nat.testBit_two_pow]
  simp [hi]

theorem getLsbD_belowSign {i : Nat} (hi : i < 1 + n) :
    (BitVec.ofNat (1 + n) (2 ^ n - 1)).getLsbD i = decide (i < n) := by
  rw [BitVec.getLsbD_ofNat, Nat.testBit_two_pow_sub_one]
  simp [hi]

/-- `{y[n], x[n-1:0]}` by masks (R274). -/
theorem append_sign_eq : (y.extractLsb' n 1 ++ x.extractLsb' 0 n : BitVec (1 + n)) =
    (y &&& BitVec.ofNat (1 + n) (2 ^ n)) ||| (x &&& BitVec.ofNat (1 + n) (2 ^ n - 1)) := by
  refine BitVec.eq_of_getLsbD_eq fun i hi => ?_
  rw [BitVec.getLsbD_append, BitVec.getLsbD_or, BitVec.getLsbD_and, BitVec.getLsbD_and, getLsbD_signBit hi,
    getLsbD_belowSign hi]
  by_cases h : i < n
  · simp [h, h.ne']
  · obtain rfl : n = i := by omega
    simp

/-- `{1'b0, x[n-1:0]}` by a mask (R264). -/
theorem append_zero_sign_eq :
    (0#1 ++ x.extractLsb' 0 n : BitVec (1 + n)) = x &&& BitVec.ofNat (1 + n) (2 ^ n - 1) := by
  simpa using append_sign_eq x 0#(1 + n)

/-- `{~x[n], x[n-1:0]}` by a mask (R266). -/
theorem append_not_sign_eq :
    (~~~x.extractLsb' n 1 ++ x.extractLsb' 0 n : BitVec (1 + n)) = x ^^^ BitVec.ofNat (1 + n) (2 ^ n) := by
  refine BitVec.eq_of_getLsbD_eq fun i hi => ?_
  rw [BitVec.getLsbD_append, BitVec.getLsbD_xor, getLsbD_signBit hi]
  by_cases h : i < n
  · simp [h, h.ne']
  · obtain rfl : n = i := by omega
    simp

end SignBit

/-- Settles O45: the rows by the round trip, each result by the mask of its sign bit. -/
theorem signOperations : Obligations.SignOperations := by
  refine ⟨row2R_of fun d j => decodeOfEncode (.fabsS d j) rfl, row2R_of fun d j => decodeOfEncode (.fabsD d j) rfl,
    row2R_of fun d j => decodeOfEncode (.fnegS d j) rfl, row2R_of fun d j => decodeOfEncode (.fnegD d j) rfl,
    row3R_of fun d j k => decodeOfEncode (.fcopysignS d j k) rfl,
    row3R_of fun d j k => decodeOfEncode (.fcopysignD d j k) rfl, ?_⟩
  rintro s fd fj fk a b _ _ ha hb rfl rfl
  rw [readFpr_low] at ha hb
  subst ha hb
  exact ⟨writesFprLow_of rfl (append_zero_sign_eq (n := 31) _), writesFpr_of rfl (append_zero_sign_eq (n := 63) _),
    writesFprLow_of rfl (append_not_sign_eq (n := 31) _), writesFpr_of rfl (append_not_sign_eq (n := 63) _),
    writesFprLow_of rfl (append_sign_eq (n := 31) _ _), writesFpr_of rfl (append_sign_eq (n := 63) _ _)⟩

end Sys2Proof.Machine
end

section
/-! PROOFS. The finite numbers of a format (10_state.md R31): they are the values of its magnitudes with a sign, in the order of
the magnitudes, and next magnitudes lie one unit of the last place apart. -/

namespace Sys2Proof.Machine

/-! ### The value of a magnitude -/

/-- The value that the bits below the sign bit stand for, as if the exponent had no upper bound. -/
def gridValue (fmt : FpFormat) (k : Nat) : ℚ :=
  if k < 2 ^ (layout fmt).fracBits then k * 2 ^ minQuantum fmt
  else (2 ^ (layout fmt).fracBits + k % 2 ^ (layout fmt).fracBits : Nat) *
    2 ^ (minQuantum fmt + ((k / 2 ^ (layout fmt).fracBits : Nat) - 1))

/-- `1` or `-1`. -/
def signOf (neg : Bool) : ℚ := if neg then -1 else 1

@[simp] theorem signOf_true : signOf true = -1 := rfl
@[simp] theorem signOf_false : signOf false = 1 := rfl

theorem finiteValue_eq (neg : Bool) (m : Nat) (e : Int) : finiteValue neg m e = signOf neg * (m * 2 ^ e) := by
  rw [finiteValue, signOf, mul_assoc]

/-- The magnitude `J * 2^frac + n` stands for `n` units of `2^(minQuantum + J)`, also where `n` has grown by a carry. -/
theorem gridValue_scaled (fmt : FpFormat) {J n : Nat} (hJ : J = 0 ∨ 2 ^ (layout fmt).fracBits ≤ n)
    (hn : n ≤ 2 ^ ((layout fmt).fracBits + 1)) :
    gridValue fmt (J * 2 ^ (layout fmt).fracBits + n) = n * (2 : ℚ) ^ (minQuantum fmt + J) := by
  unfold gridValue
  generalize hF : (layout fmt).fracBits = F at *
  generalize minQuantum fmt = mq
  have hP : 0 < 2 ^ F := by positivity
  have hpow : 2 ^ (F + 1) = 2 * 2 ^ F := by ring
  rcases Nat.lt_or_ge n (2 ^ F) with hlt | hge
  · obtain rfl : J = 0 := hJ.resolve_right (by omega)
    simp [hlt]
  · have hlarge : ¬ J * 2 ^ F + n < 2 ^ F := by omega
    rw [if_neg hlarge]
    rcases hn.lt_or_eq with hcarry | rfl
    · have hdiv : (J * 2 ^ F + n) / 2 ^ F = J + 1 := by
        rw [Nat.add_comm, Nat.add_mul_div_right _ _ hP, Nat.add_comm, Nat.div_eq_of_lt_le (k := 1) (by omega) (by omega)]
      have hmod : 2 ^ F + (J * 2 ^ F + n) % 2 ^ F = n := by
        have := Nat.div_add_mod (J * 2 ^ F + n) (2 ^ F)
        rw [hdiv, mul_add, mul_comm _ J] at this
        omega
      rw [hdiv, hmod]
      push_cast
      ring_nf
    · have hsum : J * 2 ^ F + 2 ^ (F + 1) = (J + 2) * 2 ^ F := by ring
      rw [hsum, Nat.mul_mod_left, Nat.mul_div_cancel _ hP, Nat.add_zero]
      have hexp : mq + (((J + 2 : Nat) : ℤ) - 1) = mq + J + 1 := by push_cast; ring
      rw [hexp, zpow_add_one₀ two_ne_zero]
      push_cast
      ring

/-- Every magnitude is a whole number of units in its range of exponents. -/
theorem exists_scaled (fmt : FpFormat) (k : Nat) : ∃ J n, k = J * 2 ^ (layout fmt).fracBits + n ∧
    (J = 0 ∨ 2 ^ (layout fmt).fracBits ≤ n) ∧ n < 2 ^ ((layout fmt).fracBits + 1) := by
  generalize (layout fmt).fracBits = F
  have hP : 0 < 2 ^ F := by positivity
  have hpow : 2 ^ (F + 1) = 2 * 2 ^ F := by ring
  have hmod := Nat.mod_lt k hP
  have hdiv := Nat.div_add_mod' k (2 ^ F)
  rcases Nat.eq_zero_or_pos (k / 2 ^ F) with h0 | hpos
  · exact ⟨0, k, by omega, .inl rfl, by rw [h0] at hdiv; omega⟩
  · refine ⟨k / 2 ^ F - 1, 2 ^ F + k % 2 ^ F, ?_, .inr (by omega), by omega⟩
    have : (k / 2 ^ F - 1) * 2 ^ F + 2 ^ F = k / 2 ^ F * 2 ^ F := by
      rw [← Nat.succ_mul, Nat.succ_eq_add_one, Nat.sub_add_cancel hpos]
    omega

theorem gridValue_strictMono (fmt : FpFormat) : StrictMono (gridValue fmt) := by
  refine strictMono_nat_of_lt_succ fun k => ?_
  obtain ⟨J, n, rfl, hJ, hn⟩ := exists_scaled fmt k
  rw [add_assoc, gridValue_scaled fmt hJ hn.le, gridValue_scaled fmt (hJ.imp_right (by omega)) hn]
  gcongr
  omega

@[simp] theorem gridValue_zero (fmt : FpFormat) : gridValue fmt 0 = 0 := by simp [gridValue]

theorem gridValue_nonneg (fmt : FpFormat) (k : Nat) : 0 ≤ gridValue fmt k :=
  (gridValue_zero fmt).symm.le.trans ((gridValue_strictMono fmt).monotone (Nat.zero_le k))

/-- The exponent range in units of the exponent field. -/
theorem topQuantum_eq (fmt : FpFormat) : topQuantum fmt = minQuantum fmt + (expOnes fmt - 2 : Nat) := by
  cases fmt <;> decide

theorem gridValue_maxMagnitude (fmt : FpFormat) : gridValue fmt (infMagnitude fmt - 1) = maxFinite fmt := by
  have hmag : infMagnitude fmt - 1 =
      (expOnes fmt - 2) * 2 ^ (layout fmt).fracBits + (2 ^ ((layout fmt).fracBits + 1) - 1) := by
    cases fmt <;> decide
  have hcarry : 2 ^ (layout fmt).fracBits ≤ 2 ^ ((layout fmt).fracBits + 1) - 1 := by cases fmt <;> decide
  rw [hmag, gridValue_scaled fmt (.inr hcarry) (Nat.sub_le _ _), ← topQuantum_eq, maxFinite,
    Nat.cast_sub (Nat.one_le_two_pow)]
  push_cast
  rfl

theorem gridValue_minNormal (fmt : FpFormat) : gridValue fmt (2 ^ (layout fmt).fracBits) = minNormal fmt := by
  have h := gridValue_scaled fmt (J := 0) (n := 2 ^ (layout fmt).fracBits) (.inl rfl)
    (Nat.pow_le_pow_right two_pos (Nat.le_succ _))
  rw [Nat.zero_mul, Nat.zero_add] at h
  rw [h, minNormal]
  push_cast
  rw [add_zero]

/-! ### Bit patterns -/

/-- The bits below the sign bit. -/
def magnitudeField (fmt : FpFormat) (w : DWord) : Nat := w.toNat % 2 ^ ((layout fmt).expBits + (layout fmt).fracBits)

theorem fracField_eq (fmt : FpFormat) (w : DWord) : fracField fmt w = magnitudeField fmt w % 2 ^ (layout fmt).fracBits :=
  (Nat.mod_mod_of_dvd _ (pow_dvd_pow 2 (Nat.le_add_left _ _))).symm

theorem expField_eq (fmt : FpFormat) (w : DWord) : expField fmt w = magnitudeField fmt w / 2 ^ (layout fmt).fracBits := by
  rw [expField, magnitudeField, Nat.add_comm, pow_add, Nat.mod_mul_right_div_self]

/-- Below infinity the bits stand for the value of the magnitude with the sign. -/
theorem unpack_of_magnitude_lt {fmt : FpFormat} {w : DWord} (h : magnitudeField fmt w < infMagnitude fmt) :
    ∃ m e, unpack fmt w = .fin (signField fmt w) m e ∧ m * (2 : ℚ) ^ e = gridValue fmt (magnitudeField fmt w) ∧
      m < 2 ^ ((layout fmt).fracBits + 1) ∧ minQuantum fmt ≤ e ∧ e ≤ topQuantum fmt ∧
      (m < 2 ^ (layout fmt).fracBits ↔ magnitudeField fmt w < 2 ^ (layout fmt).fracBits) := by
  unfold unpack gridValue
  rw [fracField_eq, expField_eq]
  generalize magnitudeField fmt w = k at *
  have hP : 0 < 2 ^ (layout fmt).fracBits := by positivity
  have hmod := Nat.mod_lt k hP
  have hpow : 2 ^ ((layout fmt).fracBits + 1) = 2 * 2 ^ (layout fmt).fracBits := by ring
  have hexp : k / 2 ^ (layout fmt).fracBits < expOnes fmt := Nat.div_lt_of_lt_mul (by rwa [mul_comm])
  have htop : (expOnes fmt : ℤ) = topQuantum fmt - minQuantum fmt + 2 := by cases fmt <;> decide
  simp only [if_neg hexp.ne]
  rcases Nat.lt_or_ge k (2 ^ (layout fmt).fracBits) with hlt | hge
  · simp only [Nat.div_eq_of_lt hlt, Nat.mod_eq_of_lt hlt, if_true, if_pos hlt]
    exact ⟨_, _, rfl, rfl, by omega, le_rfl, by cases fmt <;> decide, iff_of_true hlt hlt⟩
  · have hdiv : 0 < k / 2 ^ (layout fmt).fracBits := Nat.div_pos hge hP
    simp only [if_neg hdiv.ne', if_neg hge.not_gt]
    exact ⟨_, _, rfl, rfl, by omega, by omega, by omega, iff_of_false (by omega) hge.not_gt⟩

/-- From infinity on the bits stand for no number. -/
theorem valueOf_of_infMagnitude_le {fmt : FpFormat} {w : DWord} (h : infMagnitude fmt ≤ magnitudeField fmt w) :
    valueOf fmt w = none := by
  have hP : 0 < 2 ^ (layout fmt).fracBits := by positivity
  have hexp : expField fmt w = expOnes fmt := by
    refine le_antisymm (Nat.le_sub_one_of_lt (Nat.mod_lt _ (by positivity))) ?_
    rw [expField_eq]
    exact (Nat.le_div_iff_mul_le hP).2 h
  have hunpack : unpack fmt w = if fracField fmt w = 0 then .inf (signField fmt w)
      else .nan (decide (fracField fmt w < 2 ^ ((layout fmt).fracBits - 1))) := by
    simp only [unpack, hexp, if_true]
  rw [valueOf, hunpack]
  by_cases hfrac : fracField fmt w = 0
  · rw [if_pos hfrac]
  · rw [if_neg hfrac]

theorem valueOf_of_magnitude_lt {fmt : FpFormat} {w : DWord} (h : magnitudeField fmt w < infMagnitude fmt) :
    valueOf fmt w = some (signOf (signField fmt w) * gridValue fmt (magnitudeField fmt w)) := by
  obtain ⟨m, e, hw, hv, -⟩ := unpack_of_magnitude_lt h
  rw [valueOf, hw, ← hv]
  exact congrArg some (finiteValue_eq _ m e)

/-- The finite numbers of the format are the values of the magnitudes below infinity, with a sign. -/
theorem valueOf_eq_some {fmt : FpFormat} {w : DWord} {v : ℚ} (h : valueOf fmt w = some v) :
    magnitudeField fmt w < infMagnitude fmt ∧ v = signOf (signField fmt w) * gridValue fmt (magnitudeField fmt w) := by
  rcases Nat.lt_or_ge (magnitudeField fmt w) (infMagnitude fmt) with hlt | hge
  · exact ⟨hlt, Option.some.inj (h.symm.trans (valueOf_of_magnitude_lt hlt))⟩
  · rw [valueOf_of_infMagnitude_le hge] at h
    cases h

/-- A finite number as the operations see it: its sign, an integer below `2^(frac + 1)` and the exponent of its last place. -/
theorem unpack_of_valueOf {fmt : FpFormat} {w : DWord} {v : ℚ} (h : valueOf fmt w = some v) :
    ∃ m e, unpack fmt w = .fin (signField fmt w) m e ∧ v = finiteValue (signField fmt w) m e ∧
      m < 2 ^ ((layout fmt).fracBits + 1) ∧ minQuantum fmt ≤ e ∧ e ≤ topQuantum fmt := by
  obtain ⟨hk, hv⟩ := valueOf_eq_some h
  obtain ⟨m, e, hw, hm, hlt, hmin, htop, -⟩ := unpack_of_magnitude_lt hk
  exact ⟨m, e, hw, by rw [hv, ← hm, finiteValue_eq], hlt, hmin, htop⟩

/-! ### Packing -/

theorem infMagnitude_lt (fmt : FpFormat) : infMagnitude fmt < 2 ^ ((layout fmt).expBits + (layout fmt).fracBits) := by
  cases fmt <;> decide

section Pack
variable {fmt : FpFormat} {k : Nat} (neg : Bool) (hk : k < 2 ^ ((layout fmt).expBits + (layout fmt).fracBits))
include hk

theorem toNat_packBits : (packBits fmt neg k).toNat =
    (if neg then 2 ^ ((layout fmt).expBits + (layout fmt).fracBits) else 0) + k := by
  rw [packBits, BitVec.toNat_ofNat]
  refine Nat.mod_eq_of_lt ?_
  have hwidth : 2 ^ ((layout fmt).expBits + (layout fmt).fracBits) ≤ 2 ^ 63 := by cases fmt <;> decide
  split <;> omega

theorem magnitudeField_packBits : magnitudeField fmt (packBits fmt neg k) = k := by
  rw [magnitudeField, toNat_packBits neg hk]
  cases neg <;> simp [Nat.mod_eq_of_lt hk]

theorem signField_packBits : signField fmt (packBits fmt neg k) = neg := by
  rw [signField, toNat_packBits neg hk]
  cases neg
  · simpa using Nat.testBit_lt_two_pow hk
  · simp [Nat.testBit_two_pow_add_eq, Nat.testBit_lt_two_pow hk]

end Pack

theorem valueOf_packBits {fmt : FpFormat} (neg : Bool) {k : Nat} (hk : k < infMagnitude fmt) :
    valueOf fmt (packBits fmt neg k) = some (signOf neg * gridValue fmt k) := by
  have hlt := hk.trans (infMagnitude_lt fmt)
  rw [valueOf_of_magnitude_lt (by rwa [magnitudeField_packBits neg hlt]), magnitudeField_packBits neg hlt,
    signField_packBits neg hlt]

theorem unpack_packBits_inf (fmt : FpFormat) (neg : Bool) : unpack fmt (packBits fmt neg (infMagnitude fmt)) = .inf neg := by
  have hP : 0 < 2 ^ (layout fmt).fracBits := by positivity
  have hinf := infMagnitude_lt fmt
  have hdiv : infMagnitude fmt / 2 ^ (layout fmt).fracBits = expOnes fmt := Nat.mul_div_cancel _ hP
  have hmod : infMagnitude fmt % 2 ^ (layout fmt).fracBits = 0 := Nat.mul_mod_left _ _
  simp only [unpack, fracField_eq, expField_eq, magnitudeField_packBits neg hinf, signField_packBits neg hinf, hdiv, hmod,
    if_true]

/-- The last bit of the packed bits is that of the magnitude. -/
theorem getLsbD_packBits_zero (fmt : FpFormat) (neg : Bool) (k : Nat) :
    (packBits fmt neg k).getLsbD 0 = decide (k % 2 = 1) := by
  rw [packBits, BitVec.getLsbD_ofNat]
  cases neg <;> cases fmt <;> simp [layout, Nat.add_mod]

/-- The finite numbers of a format are closed under negation. -/
theorem exists_valueOf_neg {fmt : FpFormat} {w : DWord} {v : ℚ} (h : valueOf fmt w = some v) :
    ∃ w', valueOf fmt w' = some (-v) := by
  obtain ⟨hk, rfl⟩ := valueOf_eq_some h
  refine ⟨packBits fmt (!signField fmt w) (magnitudeField fmt w), (valueOf_packBits _ hk).trans ?_⟩
  cases signField fmt w <;> simp

end Sys2Proof.Machine
end

section
/-! PROOFS. Rounding to whole units (47_fp_arith.md R231). `quantize` rounds a magnitude as the mode says, and with it every
real number that compares with all half units as that magnitude does: this is how a sticky last bit stands for a remainder. -/

namespace Sys2Proof.Machine

/-! ### Whole numbers of a unit -/

theorem two_zpow_eq_double (q : ℤ) : (2 : ℝ) ^ q = 2 * 2 ^ (q - 1) := by
  rw [← zpow_one_add₀ two_ne_zero, add_sub_cancel]

/-- Whether a magnitude in `[lo, lo + 1)` units of `2^q` rounds up to `lo + 1` units. -/
def RoundsUp (mode : RoundMode) (neg : Bool) (a : ℝ) (q : ℤ) (lo : ℕ) : Prop :=
  match mode with
  | .rne => (2 * lo + 1) * (2 : ℝ) ^ (q - 1) < a ∨ (2 * lo + 1) * (2 : ℝ) ^ (q - 1) = a ∧ lo % 2 = 1
  | .rz => False
  | .rp => neg = false ∧ lo * (2 : ℝ) ^ q ≠ a
  | .rm => neg = true ∧ lo * (2 : ℝ) ^ q ≠ a

/-- `r` is the magnitude `a` rounded to a whole number of `2^q`, and whether that is inexact. -/
def Quantized (mode : RoundMode) (neg : Bool) (a : ℝ) (q : ℤ) (r : ℕ × Bool) : Prop :=
  ∃ lo : ℕ, lo * (2 : ℝ) ^ q ≤ a ∧ a < (lo + 1) * (2 : ℝ) ^ q ∧ (r.2 = true ↔ lo * (2 : ℝ) ^ q ≠ a) ∧
    (RoundsUp mode neg a q lo ∧ r.1 = lo + 1 ∨ ¬RoundsUp mode neg a q lo ∧ r.1 = lo)

theorem not_roundsUp_of_exact (mode : RoundMode) (neg : Bool) (q : ℤ) (lo : ℕ) :
    ¬RoundsUp mode neg (lo * (2 : ℝ) ^ q) q lo := by
  have hhalf := two_zpow_eq_double q
  have hpos : (0 : ℝ) < 2 ^ (q - 1) := by positivity
  cases mode with
  | rne =>
    rintro (h | ⟨h, -⟩)
    · rw [hhalf] at h; linarith
    · rw [hhalf] at h; linarith
  | rz => exact id
  | rp => exact fun h => h.2 rfl
  | rm => exact fun h => h.2 rfl

/-- The integer code decides `RoundsUp` of `(lo * unit + rem) * 2^e`. -/
theorem roundsUp_iff (mode : RoundMode) (neg : Bool) (lo rem k : ℕ) (e : ℤ) :
    roundsUp mode neg lo rem (2 ^ k) = true ↔
      RoundsUp mode neg ((lo * 2 ^ k + rem) * (2 : ℝ) ^ e) (e + k) lo := by
  have hpos : (0 : ℝ) < 2 ^ (e - 1) := by positivity
  have he := two_zpow_eq_double e
  have hunit : (2 : ℝ) ^ (e + k) = 2 ^ k * 2 ^ e := by rw [zpow_add₀ two_ne_zero, zpow_natCast, mul_comm]
  have hhalf : (2 : ℝ) ^ (e + k - 1) = 2 ^ k * 2 ^ (e - 1) := by
    rw [add_sub_right_comm, zpow_add₀ two_ne_zero, zpow_natCast, mul_comm]
  have hsum : (lo * 2 ^ k + rem) * (2 : ℝ) ^ e = (2 * lo * 2 ^ k + 2 * rem) * 2 ^ (e - 1) := by rw [he]; ring
  have hmid : (2 * lo + 1) * (2 : ℝ) ^ (e + k - 1) = (2 * lo * 2 ^ k + 2 ^ k) * 2 ^ (e - 1) := by rw [hhalf]; ring
  have hexact : lo * (2 : ℝ) ^ (e + k) = (lo * 2 ^ k + rem) * 2 ^ e ↔ rem = 0 := by
    rw [hunit, ← mul_assoc, mul_left_inj' (by positivity)]
    simp
  cases mode with
  | rne =>
    simp only [roundsUp, RoundsUp, hsum, hmid, mul_lt_mul_iff_left₀ hpos, mul_left_inj' hpos.ne', add_lt_add_iff_left,
      add_right_inj, Bool.or_eq_true, Bool.and_eq_true, decide_eq_true_eq]
    norm_cast
    rw [eq_comm (a := 2 * rem)]
  | rz => simp [roundsUp, RoundsUp]
  | rp => simp [roundsUp, RoundsUp, hexact]
  | rm => simp [roundsUp, RoundsUp, hexact]

/-- A magnitude of whole units is not rounded. -/
theorem quantize_of_le (mode : RoundMode) (neg : Bool) (m : ℕ) {e q : ℤ} (h : q ≤ e) :
    quantize mode neg m e q = (m * 2 ^ (e - q).toNat, false) := by
  rw [quantize, if_pos h]

theorem quantized_quantize (mode : RoundMode) (neg : Bool) (m : ℕ) (e q : ℤ) :
    Quantized mode neg (m * (2 : ℝ) ^ e) q (quantize mode neg m e q) := by
  rcases le_or_gt q e with hle | hlt
  · have hexact : (m * 2 ^ (e - q).toNat : ℕ) * (2 : ℝ) ^ q = m * 2 ^ e := by
      push_cast
      rw [mul_assoc, ← zpow_natCast, ← zpow_add₀ two_ne_zero, Int.toNat_of_nonneg (by omega), sub_add_cancel]
    rw [quantize_of_le mode neg m hle]
    refine ⟨_, hexact.le, hexact ▸ ?_, iff_of_false Bool.false_ne_true (not_not.2 hexact), .inr ⟨?_, rfl⟩⟩
    · exact mul_lt_mul_of_pos_right (lt_add_one _) (by positivity)
    · rw [← hexact]
      exact not_roundsUp_of_exact mode neg q _
  · obtain ⟨k, rfl⟩ : ∃ k : ℕ, q = e + k := ⟨(q - e).toNat, by omega⟩
    have hunit : (2 : ℝ) ^ (e + k) = 2 ^ k * 2 ^ e := by rw [zpow_add₀ two_ne_zero, zpow_natCast, mul_comm]
    have hm : (m : ℝ) = (m / 2 ^ k : ℕ) * 2 ^ k + (m % 2 ^ k : ℕ) := by exact_mod_cast (Nat.div_add_mod' m (2 ^ k)).symm
    have hrem : ((m % 2 ^ k : ℕ) : ℝ) < 2 ^ k := by exact_mod_cast Nat.mod_lt m (by positivity)
    have hpos : (0 : ℝ) < 2 ^ e := by positivity
    have hq : (e + (k : ℤ) - e).toNat = k := by omega
    rw [quantize, if_neg (by omega), hq, hm]
    refine ⟨m / 2 ^ k, ?_, ?_, ?_, ?_⟩
    · rw [hunit, ← mul_assoc]
      exact mul_le_mul_of_nonneg_right (le_add_of_nonneg_right (Nat.cast_nonneg _)) hpos.le
    · rw [hunit, ← mul_assoc]
      exact mul_lt_mul_of_pos_right (by linarith) hpos
    · rw [hunit, ← mul_assoc, Ne, mul_left_inj' hpos.ne']
      simp
    · rw [← roundsUp_iff mode neg _ _ k e]
      by_cases hup : roundsUp mode neg (m / 2 ^ k) (m % 2 ^ k) (2 ^ k) = true <;> simp [hup]

/-! ### What stands for a magnitude -/

/-- `a` compares with every multiple of `2^q`, and of larger units, as `y` does. -/
def SameOrder (y a : ℝ) (q : ℤ) : Prop :=
  ∀ (t : ℕ) (p : ℤ), q ≤ p →
    (t * (2 : ℝ) ^ p < a ↔ t * (2 : ℝ) ^ p < y) ∧ (t * (2 : ℝ) ^ p = a ↔ t * (2 : ℝ) ^ p = y)

theorem SameOrder.refl (a : ℝ) (q : ℤ) : SameOrder a a q := fun _ _ _ => ⟨.rfl, .rfl⟩

section SameOrder
variable {y a : ℝ} {q p : ℤ} (h : SameOrder y a q)
include h

theorem SameOrder.mono (hp : q ≤ p) : SameOrder y a p := fun t r hr => h t r (hp.trans hr)

theorem SameOrder.le_iff (t : ℕ) (hp : q ≤ p) : t * (2 : ℝ) ^ p ≤ a ↔ t * (2 : ℝ) ^ p ≤ y := by
  rw [le_iff_lt_or_eq, le_iff_lt_or_eq, (h t p hp).1, (h t p hp).2]

theorem SameOrder.gt_iff (t : ℕ) (hp : q ≤ p) : a < t * (2 : ℝ) ^ p ↔ y < t * (2 : ℝ) ^ p := by
  rw [← not_le, ← not_le, h.le_iff t hp]

end SameOrder

theorem Quantized.of_sameOrder {mode : RoundMode} {neg : Bool} {y a : ℝ} {q : ℤ} {r : ℕ × Bool}
    (h : Quantized mode neg y q r) (ha : SameOrder y a (q - 1)) : Quantized mode neg a q r := by
  obtain ⟨lo, hlo, hhi, hinexact, hup⟩ := h
  have hq : q - 1 ≤ q := by omega
  have hexact : lo * (2 : ℝ) ^ q = a ↔ lo * (2 : ℝ) ^ q = y := (ha lo q hq).2
  have hround : RoundsUp mode neg a q lo ↔ RoundsUp mode neg y q lo := by
    cases mode with
    | rne =>
      have hmid := ha (2 * lo + 1) (q - 1) le_rfl
      push_cast at hmid
      rw [RoundsUp, RoundsUp, hmid.1, hmid.2]
    | rz => exact .rfl
    | rp => rw [RoundsUp, RoundsUp, Ne, hexact]
    | rm => rw [RoundsUp, RoundsUp, Ne, hexact]
  refine ⟨lo, (ha.le_iff lo hq).2 hlo, ?_, hinexact.trans (not_congr hexact).symm, by rwa [hround]⟩
  have hnext := ha.gt_iff (lo + 1) hq
  push_cast at hnext
  exact hnext.2 hhi

/-- An odd last bit stands for anything strictly between its even neighbours. -/
theorem sameOrder_sticky {m : ℕ} {e : ℤ} {a : ℝ} (hodd : m % 2 = 1) (hlo : ((m : ℝ) - 1) * 2 ^ e < a)
    (hhi : a < ((m : ℝ) + 1) * 2 ^ e) : SameOrder (m * 2 ^ e) a (e + 1) := by
  intro t p hp
  obtain ⟨k, rfl⟩ : ∃ k : ℕ, p = e + 1 + k := ⟨(p - e - 1).toNat, by omega⟩
  have hpos : (0 : ℝ) < 2 ^ e := by positivity
  have hunit : (t : ℝ) * 2 ^ (e + 1 + k) = (2 * (t * 2 ^ k) : ℕ) * 2 ^ e := by
    rw [zpow_add₀ two_ne_zero, zpow_add_one₀ two_ne_zero, zpow_natCast]
    push_cast
    ring
  rw [hunit]
  generalize t * 2 ^ k = c
  rcases lt_or_gt_of_ne (show 2 * c ≠ m by omega) with hlt | hgt
  · have hle : ((2 * c : ℕ) : ℝ) ≤ m - 1 := by
      rw [le_sub_iff_add_le]
      exact_mod_cast hlt
    have hbelow : ((2 * c : ℕ) : ℝ) * 2 ^ e < a := (mul_le_mul_of_nonneg_right hle hpos.le).trans_lt hlo
    have hbelow' : ((2 * c : ℕ) : ℝ) * 2 ^ e < m * 2 ^ e := mul_lt_mul_of_pos_right (by exact_mod_cast hlt) hpos
    exact ⟨iff_of_true hbelow hbelow', iff_of_false hbelow.ne hbelow'.ne⟩
  · have hge : (m : ℝ) + 1 ≤ (2 * c : ℕ) := by exact_mod_cast hgt
    have habove : a < ((2 * c : ℕ) : ℝ) * 2 ^ e := hhi.trans_le (mul_le_mul_of_nonneg_right hge hpos.le)
    have habove' : (m : ℝ) * 2 ^ e < ((2 * c : ℕ) : ℝ) * 2 ^ e := mul_lt_mul_of_pos_right (by exact_mod_cast hgt) hpos
    exact ⟨iff_of_false habove.not_gt habove'.not_gt, iff_of_false habove.ne' habove'.ne'⟩

/-! ### The unit of a magnitude -/

section Unit
variable {mode : RoundMode} {neg : Bool} {a : ℝ} {q : ℤ} {F : ℕ} {r : ℕ × Bool}

/-- Below `2^(F + 1)` units, so is the rounded number, up to a carry. -/
theorem Quantized.le (h : Quantized mode neg a q r) (ha : a < 2 ^ (F + 1) * 2 ^ q) : r.1 ≤ 2 ^ (F + 1) := by
  obtain ⟨lo, hlo, -, -, hup⟩ := h
  have hlt : (lo : ℝ) < 2 ^ (F + 1) := lt_of_mul_lt_mul_right (hlo.trans_lt ha) (by positivity)
  have hlt' : lo < 2 ^ (F + 1) := by exact_mod_cast hlt
  rcases hup with ⟨-, h⟩ | ⟨-, h⟩ <;> omega

/-- From `2^F` units on, so is the rounded number. -/
theorem Quantized.ge (h : Quantized mode neg a q r) (ha : 2 ^ F * 2 ^ q ≤ a) : 2 ^ F ≤ r.1 := by
  obtain ⟨lo, -, hhi, -, hup⟩ := h
  have hlt : (2 ^ F : ℝ) < lo + 1 := lt_of_mul_lt_mul_right (ha.trans_lt hhi) (by positivity)
  have hlt' : 2 ^ F < lo + 1 := by exact_mod_cast hlt
  rcases hup with ⟨-, h⟩ | ⟨-, h⟩ <;> omega

end Unit

/-- The magnitude `m * 2^e` has `F + 1` bits above the unit that `roundFinite` takes. -/
theorem log2_bounds {m : ℕ} (hm : m ≠ 0) (e : ℤ) (F : ℕ) :
    2 ^ F * (2 : ℝ) ^ (m.log2 + e - F) ≤ m * 2 ^ e ∧ m * (2 : ℝ) ^ e < 2 ^ (F + 1) * (2 : ℝ) ^ (m.log2 + e - F) := by
  have hpos : (0 : ℝ) < 2 ^ e := by positivity
  have hlo : (2 : ℝ) ^ F * (2 : ℝ) ^ (m.log2 + e - F) = 2 ^ m.log2 * 2 ^ e := by
    rw [← zpow_natCast, ← zpow_natCast, ← zpow_add₀ two_ne_zero, ← zpow_add₀ two_ne_zero]
    ring_nf
  have hhi : (2 : ℝ) ^ (F + 1) * (2 : ℝ) ^ (m.log2 + e - F) = 2 ^ (m.log2 + 1) * 2 ^ e := by
    rw [pow_succ, mul_right_comm, hlo, pow_succ, mul_right_comm]
  rw [hlo, hhi]
  constructor
  · exact mul_le_mul_of_nonneg_right (by exact_mod_cast Nat.log2_self_le hm) hpos.le
  · exact mul_lt_mul_of_pos_right (by exact_mod_cast Nat.lt_log2_self) hpos

end Sys2Proof.Machine
end

section
/-! PROOFS. Whole units as numbers of a format (47_fp_arith.md R231, R232): the rounded number of units is a magnitude next to the
exact value, so no number of the format is better placed; it reaches a power of two exactly where the exact value rounds up to it,
which decides overflow and tininess. -/

namespace Sys2Proof.Machine

/-! ### Signs -/

/-- The mode that rounds `-x` as the given one rounds `x`. -/
def RoundMode.flipped : RoundMode → RoundMode
  | .rne => .rne
  | .rz => .rz
  | .rp => .rm
  | .rm => .rp

theorem roundsUp_flipped (mode : RoundMode) (a : ℝ) (q : ℤ) (lo : ℕ) :
    RoundsUp mode true a q lo ↔ RoundsUp mode.flipped false a q lo := by
  cases mode <;> simp [RoundsUp, RoundMode.flipped]

theorem Quantized.flipped {mode : RoundMode} {a : ℝ} {q : ℤ} {r : ℕ × Bool} (h : Quantized mode true a q r) :
    Quantized mode.flipped false a q r := by
  simpa only [Quantized, roundsUp_flipped] using h

theorem IsRounded.neg {fmt : FpFormat} {mode : RoundMode} {x : ℝ} {r : ℚ} {even : Bool}
    (h : IsRounded fmt mode.flipped x r even) : IsRounded fmt mode (-x) (-r) even := by
  have hneg : ∀ w v, valueOf fmt w = some v → ∃ w', valueOf fmt w' = some (-v) := fun w v => exists_valueOf_neg
  cases mode with
  | rp =>
    obtain ⟨hr, hbest⟩ := h
    refine ⟨by push_cast; linarith, fun w v hv hle => ?_⟩
    obtain ⟨w', hw'⟩ := hneg w v hv
    have := hbest w' (-v) hw' (by push_cast; linarith)
    linarith
  | rm =>
    obtain ⟨hr, hbest⟩ := h
    refine ⟨by push_cast; linarith, fun w v hv hle => ?_⟩
    obtain ⟨w', hw'⟩ := hneg w v hv
    have := hbest w' (-v) hw' (by push_cast; linarith)
    linarith
  | rz =>
    obtain ⟨hr, hsign, hbest⟩ := h
    refine ⟨by simpa using hr, by simpa using hsign, fun w v hv hle => ?_⟩
    simpa using hbest w v hv (by simpa using hle)
  | rne =>
    intro w v hv
    obtain ⟨w', hw'⟩ := hneg w v hv
    obtain ⟨hle, htie⟩ := h w' (-v) hw'
    have hr : |((-r : ℚ) : ℝ) - -x| = |(r : ℝ) - x| := by rw [← abs_neg]; push_cast; ring_nf
    have hv : |(v : ℝ) - -x| = |((-v : ℚ) : ℝ) - x| := by rw [← abs_neg]; push_cast; ring_nf
    rw [hr, hv]
    exact ⟨hle, fun heq hne => htie heq fun hvr => hne (by linarith)⟩

theorem abs_signOf_mul (neg : Bool) {a : ℝ} (ha : 0 < a) : |(signOf neg : ℝ) * a| = a := by
  cases neg <;> simp [abs_of_pos ha]

theorem signOf_mul_neg_iff (neg : Bool) {a : ℝ} (ha : 0 < a) : (signOf neg : ℝ) * a < 0 ↔ neg = true := by
  cases neg <;> simp [ha, ha.le]

theorem signOf_mul_pos_iff (neg : Bool) {a : ℝ} (ha : 0 < a) : 0 < (signOf neg : ℝ) * a ↔ neg = false := by
  cases neg <;> simp [ha, ha.le]

/-! ### No number of the format is better placed -/

section Cast
variable {v : ℚ} {n : ℕ} {q : ℤ}

theorem cast_units : ((n * 2 ^ q : ℚ) : ℝ) = n * 2 ^ q := by push_cast; rfl
theorem cast_le_units : (v : ℝ) ≤ n * 2 ^ q ↔ v ≤ n * 2 ^ q := by rw [← cast_units, Rat.cast_le]
theorem units_le_cast : n * (2 : ℝ) ^ q ≤ v ↔ n * 2 ^ q ≤ v := by rw [← cast_units, Rat.cast_le]
theorem cast_eq_units : (v : ℝ) = n * 2 ^ q ↔ v = n * 2 ^ q := by rw [← cast_units, Rat.cast_inj]

end Cast

/-- No finite number of the format lies strictly between `t` and `t + 1` units. -/
def NoneBetween (fmt : FpFormat) (q : ℤ) (t : ℕ) : Prop :=
  ∀ w v, valueOf fmt w = some v → (v : ℝ) ≤ t * 2 ^ q ∨ (t + 1) * (2 : ℝ) ^ q ≤ v

theorem noneBetween_of_scaled (fmt : FpFormat) {J t : ℕ} (hJ : J = 0 ∨ 2 ^ (layout fmt).fracBits ≤ t)
    (ht : t < 2 ^ ((layout fmt).fracBits + 1)) : NoneBetween fmt (minQuantum fmt + J) t := by
  intro w v hv
  rw [← Nat.cast_add_one, cast_le_units, units_le_cast]
  obtain ⟨-, rfl⟩ := valueOf_eq_some hv
  have hlower := gridValue_scaled fmt hJ ht.le
  have hupper := gridValue_scaled fmt (n := t + 1) (hJ.imp_right (by omega)) ht
  rw [← add_assoc] at hupper
  rw [← hlower, ← hupper]
  have hmono := (gridValue_strictMono fmt).monotone
  cases signField fmt w with
  | true =>
    have h0 := gridValue_nonneg fmt (magnitudeField fmt w)
    have h1 := gridValue_nonneg fmt (J * 2 ^ (layout fmt).fracBits + t)
    exact .inl (by rw [signOf_true]; linarith)
  | false =>
    rw [signOf_false, one_mul]
    rcases Nat.lt_or_ge (J * 2 ^ (layout fmt).fracBits + t) (magnitudeField fmt w) with hlt | hge
    · exact .inr (hmono hlt)
    · exact .inl (hmono hge)

section Neighbours
variable {fmt : FpFormat} {a : ℝ} {q : ℤ} {lo : ℕ}

/-- A number of the format not above `a` is not above the whole units below `a`. -/
theorem le_lower (hhi : a < (lo + 1) * (2 : ℝ) ^ q) (hnone : NoneBetween fmt q lo) {w : DWord} {v : ℚ}
    (hv : valueOf fmt w = some v) (hle : (v : ℝ) ≤ a) : v ≤ lo * 2 ^ q :=
  cast_le_units.1 ((hnone w v hv).resolve_right fun h => (hhi.trans_le h).not_ge hle)

variable (hlo : lo * (2 : ℝ) ^ q ≤ a) (hhi : a < (lo + 1) * (2 : ℝ) ^ q) (hnone : NoneBetween fmt q lo)
include hlo hhi hnone

theorem isRounded_rm_lower (even : Bool) : IsRounded fmt .rm a (lo * 2 ^ q) even := by
  rw [IsRounded, cast_units]
  exact ⟨hlo, fun w v hv hle => le_lower hhi hnone hv hle⟩

theorem isRounded_rz_lower (even : Bool) : IsRounded fmt .rz a (lo * 2 ^ q) even := by
  have hnonneg : (0 : ℝ) ≤ lo * 2 ^ q := by positivity
  have ha : 0 ≤ a := hnonneg.trans hlo
  rw [IsRounded, cast_units, abs_of_nonneg ha, abs_of_nonneg hnonneg]
  refine ⟨hlo, by positivity, fun w v hv hle => ?_⟩
  obtain ⟨w', hw'⟩ : ∃ w', valueOf fmt w' = some |v| := by
    rcases abs_choice v with hv' | hv' <;> rw [hv']
    · exact ⟨w, hv⟩
    · exact exists_valueOf_neg hv
  rw [← Rat.cast_abs] at hle
  rw [abs_of_nonneg (a := (lo : ℚ) * 2 ^ q) (by positivity)]
  exact le_lower hhi hnone hw' hle

theorem isRounded_rp_upper (hne : lo * (2 : ℝ) ^ q ≠ a) (even : Bool) :
    IsRounded fmt .rp a ((lo + 1 : ℕ) * 2 ^ q) even := by
  rw [IsRounded, cast_units, Nat.cast_add_one]
  refine ⟨hhi.le, fun w v hv hle => ?_⟩
  rw [← units_le_cast, Nat.cast_add_one]
  exact (hnone w v hv).resolve_left fun h => hne (hlo.antisymm (hle.trans h))

/-- Above the middle, or in it with `lo` odd, the upper neighbour is the nearest. -/
theorem isRounded_rne_upper
    (hup : (2 * lo + 1) * (2 : ℝ) ^ (q - 1) < a ∨ (2 * lo + 1) * (2 : ℝ) ^ (q - 1) = a ∧ lo % 2 = 1) :
    IsRounded fmt .rne a ((lo + 1 : ℕ) * 2 ^ q) (decide ((lo + 1) % 2 = 0)) := by
  intro w v hv
  have hmid : (2 * lo + 1) * (2 : ℝ) ^ (q - 1) = lo * 2 ^ q + 2 ^ (q - 1) := by rw [two_zpow_eq_double q]; ring
  have hnext : ((lo : ℝ) + 1) * 2 ^ q = lo * 2 ^ q + 2 * 2 ^ (q - 1) := by rw [two_zpow_eq_double q]; ring
  have hpos : (0 : ℝ) < 2 ^ (q - 1) := by positivity
  have hsep := hnone w v hv
  have hsame : (v : ℝ) = ((lo + 1 : ℕ) : ℝ) * 2 ^ q → v = (lo + 1 : ℕ) * 2 ^ q := cast_eq_units.1
  rw [Nat.cast_add_one, hnext] at hsame
  rw [hmid] at hup
  rw [hnext] at hsep hhi
  rw [cast_units, Nat.cast_add_one, hnext, abs_of_nonneg (by linarith : (0 : ℝ) ≤ lo * 2 ^ q + 2 * 2 ^ (q - 1) - a)]
  rcases hsep with hbelow | habove
  · rw [abs_of_nonpos (by linarith)]
    rcases hup with hup | ⟨hup, hodd⟩
    · exact ⟨by linarith, fun heq => by linarith⟩
    · exact ⟨by linarith, fun _ _ => decide_eq_true (by omega)⟩
  · rw [abs_of_nonneg (by linarith)]
    exact ⟨by linarith, fun heq hne => absurd (hsame (by linarith)) hne⟩

/-- Below the middle, or in it with `lo` even, the lower neighbour is the nearest. -/
theorem isRounded_rne_lower
    (hdown : ¬((2 * lo + 1) * (2 : ℝ) ^ (q - 1) < a ∨ (2 * lo + 1) * (2 : ℝ) ^ (q - 1) = a ∧ lo % 2 = 1)) :
    IsRounded fmt .rne a (lo * 2 ^ q) (decide (lo % 2 = 0)) := by
  intro w v hv
  have hmid : (2 * lo + 1) * (2 : ℝ) ^ (q - 1) = lo * 2 ^ q + 2 ^ (q - 1) := by rw [two_zpow_eq_double q]; ring
  have hnext : ((lo : ℝ) + 1) * 2 ^ q = lo * 2 ^ q + 2 * 2 ^ (q - 1) := by rw [two_zpow_eq_double q]; ring
  have hsep := hnone w v hv
  have hsame : (v : ℝ) = lo * 2 ^ q → v = lo * 2 ^ q := cast_eq_units.1
  rw [hmid] at hdown
  rw [hnext] at hsep
  obtain ⟨hle, htie⟩ := not_or.1 hdown
  rw [cast_units, abs_of_nonpos (by linarith : lo * 2 ^ q - a ≤ (0 : ℝ))]
  rcases hsep with hbelow | habove
  · rw [abs_of_nonpos (by linarith)]
    exact ⟨by linarith, fun heq hne => absurd (hsame (by linarith)) hne⟩
  · rw [abs_of_nonneg (by linarith)]
    refine ⟨by linarith, fun heq _ => decide_eq_true ?_⟩
    have hnotodd : lo % 2 ≠ 1 := fun hodd => htie ⟨by linarith, hodd⟩
    omega

end Neighbours

/-- Rounding to whole units of the format's own is correct, for a positive value. -/
theorem isRounded_of_quantized {fmt : FpFormat} {mode : RoundMode} {a : ℝ} {q : ℤ} {r : ℕ × Bool}
    (h : Quantized mode false a q r)
    (hnone : ∀ t : ℕ, t * (2 : ℝ) ^ q ≤ a → a < (t + 1) * (2 : ℝ) ^ q → NoneBetween fmt q t) :
    IsRounded fmt mode a (r.1 * 2 ^ q) (decide (r.1 % 2 = 0)) := by
  obtain ⟨lo, hlo, hhi, -, ⟨hup, hr⟩ | ⟨hdown, hr⟩⟩ := h
  · have hsep := hnone lo hlo hhi
    rw [hr]
    cases mode with
    | rne => exact isRounded_rne_upper hlo hhi hsep hup
    | rz => exact hup.elim
    | rp => exact isRounded_rp_upper hlo hhi hsep hup.2 _
    | rm => exact absurd hup.1 (by decide)
  · have hsep := hnone lo hlo hhi
    rw [hr]
    cases mode with
    | rne => exact isRounded_rne_lower hlo hhi hsep hdown
    | rz => exact isRounded_rz_lower hlo hhi hsep _
    | rp =>
      have hexact : lo * (2 : ℝ) ^ q = a := by simpa [RoundsUp] using hdown
      rw [IsRounded, cast_units]
      exact ⟨hexact.ge, fun w v hv hle => units_le_cast.1 (hexact.le.trans hle)⟩
    | rm => exact isRounded_rm_lower hlo hhi hsep _

/-! ### Reaching a power of two -/

/-- `RoundsUpTo` by sign and magnitude. -/
theorem roundsUpTo_signed (mode : RoundMode) (bound gap : ℚ) (neg : Bool) {a : ℝ} (ha : 0 < a) :
    RoundsUpTo mode bound gap (signOf neg * a) ↔
      match mode with
      | .rne => (bound : ℝ) - gap / 2 ≤ a
      | .rz => (bound : ℝ) ≤ a
      | .rp => neg = false ∧ (bound : ℝ) - gap < a ∨ (bound : ℝ) ≤ a
      | .rm => neg = true ∧ (bound : ℝ) - gap < a ∨ (bound : ℝ) ≤ a := by
  cases mode <;>
    simp only [RoundsUpTo, abs_signOf_mul neg ha, signOf_mul_pos_iff neg ha, signOf_mul_neg_iff neg ha, Rat.cast_sub,
      Rat.cast_div, Rat.cast_ofNat]

theorem roundsUpTo_of_le (mode : RoundMode) {bound gap : ℚ} (hgap : 0 ≤ gap) {x : ℝ} (h : (bound : ℝ) ≤ |x|) :
    RoundsUpTo mode bound gap x := by
  cases mode with
  | rne =>
    have : (0 : ℝ) ≤ gap := by exact_mod_cast hgap
    rw [RoundsUpTo]
    push_cast
    linarith
  | rz => exact h
  | rp => exact .inr h
  | rm => exact .inr h

theorem not_roundsUpTo_of_le (mode : RoundMode) {bound gap : ℚ} (hgap : 0 < gap) {x : ℝ}
    (h : |x| ≤ ((bound - gap : ℚ) : ℝ)) : ¬RoundsUpTo mode bound gap x := by
  have hgap' : (0 : ℝ) < gap := by exact_mod_cast hgap
  push_cast at h
  cases mode with
  | rne => rw [RoundsUpTo]; push_cast; linarith
  | rz => rw [RoundsUpTo]; linarith
  | rp =>
    rw [RoundsUpTo]
    push_cast
    rintro (⟨-, h'⟩ | h') <;> linarith
  | rm =>
    rw [RoundsUpTo]
    push_cast
    rintro (⟨-, h'⟩ | h') <;> linarith

/-- A value of `F + 1` bits rounds up to `2^(F + 1)` units of `2^t` exactly if its unit is larger or it carries there. -/
theorem roundsUpTo_iff {mode : RoundMode} {neg : Bool} {a : ℝ} {q : ℤ} {F : ℕ} {r : ℕ × Bool}
    (hlo : 2 ^ F * 2 ^ q ≤ a) (hhi : a < 2 ^ (F + 1) * 2 ^ q) (h : Quantized mode neg a q r) (t : ℤ) :
    RoundsUpTo mode (2 ^ (F + 1) * 2 ^ t) (2 ^ t) (signOf neg * a) ↔ t < q ∨ t = q ∧ r.1 = 2 ^ (F + 1) := by
  have ha : 0 < a := lt_of_lt_of_le (by positivity) hlo
  have hF : (1 : ℝ) ≤ 2 ^ F := one_le_pow₀ one_le_two
  rcases lt_trichotomy t q with hlt | rfl | hgt
  · refine iff_of_true (roundsUpTo_of_le mode (by positivity) ?_) (.inl hlt)
    have hpow : (2 : ℝ) ^ (t + 1) ≤ 2 ^ q := zpow_le_zpow_right₀ one_le_two hlt
    rw [abs_signOf_mul neg ha]
    refine le_trans (le_of_eq ?_) ((mul_le_mul_of_nonneg_left hpow (by positivity)).trans hlo)
    push_cast
    rw [zpow_add_one₀ two_ne_zero]
    ring
  · obtain ⟨lo, hlo', hhi', -, hup⟩ := h
    have hpos : (0 : ℝ) < 2 ^ t := by positivity
    have hlt : lo < 2 ^ (F + 1) := by exact_mod_cast lt_of_mul_lt_mul_right (hlo'.trans_lt hhi) hpos.le
    simp only [lt_irrefl, true_and, false_or]
    rcases Nat.lt_or_ge (lo + 1) (2 ^ (F + 1)) with hsmall | hlast
    · have hle : (lo : ℝ) + 1 ≤ 2 ^ (F + 1) - 1 := by
        rw [le_sub_iff_add_le]
        exact_mod_cast hsmall
      refine iff_of_false (not_roundsUpTo_of_le mode (by positivity) ?_) (by rcases hup with ⟨-, h⟩ | ⟨-, h⟩ <;> omega)
      rw [abs_signOf_mul neg ha]
      have := mul_le_mul_of_nonneg_right hle hpos.le
      push_cast
      linarith
    · have heq : lo + 1 = 2 ^ (F + 1) := by omega
      have hodd : lo % 2 = 1 := by rw [pow_succ] at heq; omega
      have hreal : (2 : ℝ) ^ (F + 1) = lo + 1 := by exact_mod_cast heq.symm
      have hr : r.1 = 2 ^ (F + 1) ↔ RoundsUp mode neg a t lo := by
        rcases hup with ⟨h, hn⟩ | ⟨h, hn⟩
        · exact iff_of_true (by omega) h
        · exact iff_of_false (by omega) h
      have hmid : ((lo : ℝ) + 1) * 2 ^ t - 2 ^ t / 2 = (2 * lo + 1) * 2 ^ (t - 1) := by
        rw [two_zpow_eq_double t]; ring
      have hbase : ((lo : ℝ) + 1) * 2 ^ t - 2 ^ t = lo * 2 ^ t := by ring
      rw [hr, roundsUpTo_signed mode _ _ neg ha]
      push_cast
      rw [hreal, hmid, hbase]
      cases mode with
      | rne => simp [RoundsUp, hodd, le_iff_lt_or_eq]
      | rz => simp [RoundsUp, hhi']
      | rp => simp [RoundsUp, hhi'.not_ge, hlo'.lt_iff_ne]
      | rm => simp [RoundsUp, hhi'.not_ge, hlo'.lt_iff_ne]
  · refine iff_of_false (not_roundsUpTo_of_le mode (by positivity) ?_) (by omega)
    have hpow : (2 : ℝ) ^ (q + 1) ≤ 2 ^ t := zpow_le_zpow_right₀ one_le_two hgt
    rw [zpow_add_one₀ two_ne_zero] at hpow
    rw [abs_signOf_mul neg ha]
    have h1 := mul_le_mul_of_nonneg_left hpow (show (0 : ℝ) ≤ 2 ^ F by positivity)
    have h2 : (2 : ℝ) ^ t ≤ 2 ^ F * 2 ^ t := le_mul_of_one_le_left (by positivity) hF
    push_cast
    rw [pow_succ] at *
    linarith

end Sys2Proof.Machine
end

section
/-! PROOFS. `roundFinite` assembled: its result, its overflow and its exceptions are those of correct rounding (47_fp_arith.md
R231, R232), for the exact value and for every value that a sticky last bit stands for. -/

namespace Sys2Proof.Machine

/-! ### The result of `roundFinite` by its unit -/

/-- The unit of the result: that of the exact value, but not below the format's own. -/
def resultQuantum (fmt : FpFormat) (m : ℕ) (e : ℤ) : ℤ := max (m.log2 + e - (layout fmt).fracBits) (minQuantum fmt)

/-- Whether `roundFinite` takes a value of the unit `2^q` for tiny, `n` being its rounding to that unit (R232, log 11). -/
def takenForTiny (fmt : FpFormat) (q : ℤ) (n : ℕ) : Bool :=
  (decide (q < minQuantum fmt) && (decide (q + 1 < minQuantum fmt) || decide (n < 2 ^ ((layout fmt).fracBits + 1)))) ||
    (decide (q < minQuantum fmt) && Config.tinyBeforeRounding)

theorem roundFinite_eq (fmt : FpFormat) (env : FpEnv) (neg : Bool) (m : ℕ) (e : ℤ) {J : ℕ}
    (hJ : resultQuantum fmt m e = minQuantum fmt + J) {r : ℕ × Bool}
    (hr : r = quantize env.mode neg m e (resultQuantum fmt m e)) {n : ℕ}
    (hn : n = (quantize env.mode neg m e (m.log2 + e - (layout fmt).fracBits)).1) :
    roundFinite fmt env neg m e =
      if infMagnitude fmt ≤ J * 2 ^ (layout fmt).fracBits + r.1 then
        ⟨.bits (packBits fmt neg (overflowMagnitude fmt env.mode neg)), excO ||| excI⟩
      else
        ⟨.bits (packBits fmt neg (J * 2 ^ (layout fmt).fracBits + r.1)), excIf r.2 excI |||
          excIf (takenForTiny fmt (m.log2 + e - (layout fmt).fracBits) n && (r.2 || env.underflowEnabled)) excU⟩ := by
  have hJ' : (resultQuantum fmt m e - minQuantum fmt).toNat = J := by omega
  subst hr hn hJ'
  rfl

/-! ### Exceptions -/

theorem exc_and_excI (i u : Bool) : (excIf i excI ||| excIf u excU) &&& excI ≠ 0 ↔ i = true := by
  revert i u; decide

theorem exc_and_excU (i u : Bool) : (excIf i excI ||| excIf u excU) &&& excU ≠ 0 ↔ u = true := by
  revert i u; decide

theorem exc_and_VZO (i u : Bool) : (excIf i excI ||| excIf u excU) &&& (excV ||| excZ ||| excO) = 0 := by
  revert i u; decide

/-! ### Overflow -/

theorem roundsTowardZero_iff (mode : RoundMode) (neg : Bool) {a : ℝ} (ha : 0 < a) :
    RoundsTowardZero mode (signOf neg * a) ↔ mode = .rz ∨ (mode = .rp ∧ neg = true) ∨ (mode = .rm ∧ neg = false) := by
  rw [RoundsTowardZero, signOf_mul_neg_iff neg ha, signOf_mul_pos_iff neg ha]

/-- Where the mode rounds toward zero the overflow result is the largest finite number, else infinity. -/
theorem overflowMagnitude_eq (fmt : FpFormat) (mode : RoundMode) (neg : Bool) {a : ℝ} (ha : 0 < a) :
    (RoundsTowardZero mode (signOf neg * a) ∧ overflowMagnitude fmt mode neg = infMagnitude fmt - 1) ∨
      (¬RoundsTowardZero mode (signOf neg * a) ∧ overflowMagnitude fmt mode neg = infMagnitude fmt) := by
  rw [roundsTowardZero_iff mode neg ha]
  cases mode <;> cases neg <;> simp [overflowMagnitude]

theorem infMagnitude_pos (fmt : FpFormat) : 0 < infMagnitude fmt := by cases fmt <;> decide

theorem maxFinite_nonneg (fmt : FpFormat) : 0 ≤ maxFinite fmt :=
  gridValue_maxMagnitude fmt ▸ gridValue_nonneg fmt (infMagnitude fmt - 1)

theorem correctlyRounded_of_overflows {fmt : FpFormat} {env : FpEnv} {neg : Bool} {a : ℝ} (ha : 0 < a)
    (h : Overflows fmt env.mode (signOf neg * a)) : CorrectlyRounded fmt env (signOf neg * a)
      ⟨.bits (packBits fmt neg (overflowMagnitude fmt env.mode neg)), excO ||| excI⟩ := by
  have hinf := infMagnitude_lt fmt
  have hpos := infMagnitude_pos fmt
  refine ⟨_, rfl, ?_, fun _ => ⟨rfl, fun hz => ?_, fun hz => ?_⟩, fun hn => absurd h hn⟩
  · rw [signOf_mul_neg_iff neg ha, signField_packBits]
    rcases overflowMagnitude_eq fmt env.mode neg ha with ⟨-, hk⟩ | ⟨-, hk⟩ <;> omega
  · obtain ⟨-, hk⟩ := (overflowMagnitude_eq fmt env.mode neg ha).resolve_right fun h => h.1 hz
    refine ⟨_, by rw [hk]; exact valueOf_packBits neg (by omega), ?_⟩
    rw [gridValue_maxMagnitude]
    cases neg <;> simp [abs_of_nonneg (maxFinite_nonneg fmt)]
  · obtain ⟨-, hk⟩ := (overflowMagnitude_eq fmt env.mode neg ha).resolve_left fun h => hz h.1
    rw [hk, unpack_packBits_inf, signField_packBits neg hinf]

/-! ### In range -/

/-- The flag says whether the rounded number is the magnitude itself. -/
theorem Quantized.inexact_iff {mode : RoundMode} {neg : Bool} {a : ℝ} {q : ℤ} {r : ℕ × Bool}
    (h : Quantized mode neg a q r) : r.2 = true ↔ r.1 * (2 : ℝ) ^ q ≠ a := by
  obtain ⟨lo, -, hhi, hinexact, ⟨hup, hr⟩ | ⟨-, hr⟩⟩ := h
  · have hne : lo * (2 : ℝ) ^ q ≠ a := by
      rintro rfl
      exact not_roundsUp_of_exact mode neg q lo hup
    rw [hr, Nat.cast_add_one]
    exact iff_of_true (hinexact.2 hne) hhi.ne'
  · rw [hr]
    exact hinexact

/-- The rounded number of units is the best placed number of the format, for values of both signs. -/
theorem isRounded_signed {fmt : FpFormat} {mode : RoundMode} {neg : Bool} {a : ℝ} {q : ℤ} {r : ℕ × Bool}
    (h : Quantized mode neg a q r)
    (hnone : ∀ t : ℕ, t * (2 : ℝ) ^ q ≤ a → a < (t + 1) * (2 : ℝ) ^ q → NoneBetween fmt q t) :
    IsRounded fmt mode (signOf neg * a) (signOf neg * (r.1 * 2 ^ q)) (decide (r.1 % 2 = 0)) := by
  cases neg with
  | false => simpa using isRounded_of_quantized h hnone
  | true => simpa using (isRounded_of_quantized h.flipped hnone).neg

theorem not_decide_odd (k : ℕ) : (!decide (k % 2 = 1)) = decide (k % 2 = 0) := by
  rcases Nat.mod_two_eq_zero_or_one k with h | h <;> simp [h]

theorem scaled_mod_two (fmt : FpFormat) (J n : ℕ) : (J * 2 ^ (layout fmt).fracBits + n) % 2 = n % 2 := by
  have hdvd : 2 ∣ J * 2 ^ (layout fmt).fracBits := by cases fmt <;> exact Dvd.dvd.mul_left (dvd_pow_self 2 (by decide)) J
  omega

/-! ### Tininess -/

theorem minNormal_eq (fmt : FpFormat) : minNormal fmt = 2 ^ ((layout fmt).fracBits + 1) * 2 ^ (minQuantum fmt - 1) := by
  rw [minNormal, zpow_sub_one₀ two_ne_zero]
  ring

/-- The magnitude is below the smallest normal number exactly if its unit is below the format's own. -/
theorem lt_minNormal_iff (fmt : FpFormat) {a : ℝ} {q : ℤ} (hlo : 2 ^ (layout fmt).fracBits * 2 ^ q ≤ a)
    (hhi : a < 2 ^ ((layout fmt).fracBits + 1) * 2 ^ q) : a < (minNormal fmt : ℝ) ↔ q < minQuantum fmt := by
  rw [minNormal]
  push_cast
  rcases lt_or_ge q (minQuantum fmt) with h | h
  · refine iff_of_true (hhi.trans_le ?_) h
    have hpow : (2 : ℝ) ^ (q + 1) ≤ 2 ^ minQuantum fmt := zpow_le_zpow_right₀ one_le_two h
    rw [zpow_add_one₀ two_ne_zero] at hpow
    have := mul_le_mul_of_nonneg_left hpow (show (0 : ℝ) ≤ 2 ^ (layout fmt).fracBits by positivity)
    rw [pow_succ]
    linarith
  · refine iff_of_false (not_lt.2 (le_trans ?_ hlo)) h.not_gt
    gcongr
    exact one_le_two

theorem takenForTiny_iff {fmt : FpFormat} {mode : RoundMode} {neg : Bool} {a : ℝ} {q : ℤ} {r : ℕ × Bool}
    (hlo : 2 ^ (layout fmt).fracBits * 2 ^ q ≤ a) (hhi : a < 2 ^ ((layout fmt).fracBits + 1) * 2 ^ q)
    (h : Quantized mode neg a q r) :
    takenForTiny fmt q r.1 = true ↔ IsTiny fmt mode (signOf neg * a) := by
  have ha : 0 < a := lt_of_lt_of_le (by positivity) hlo
  have hle := h.le hhi
  rw [IsTiny, minNormal_eq, roundsUpTo_iff hlo hhi h, ← minNormal_eq, abs_signOf_mul neg ha, lt_minNormal_iff fmt hlo hhi]
  simp only [takenForTiny, Bool.or_eq_true, Bool.and_eq_true, decide_eq_true_eq]
  refine or_congr ?_ and_comm
  omega

/-! ### Correct rounding -/

section RoundFinite
variable {fmt : FpFormat} {env : FpEnv} {neg : Bool} {m : ℕ} {e : ℤ} {a : ℝ} {q : ℤ} {J : ℕ}

/-- The value of a result in range, with its exceptions. -/
theorem correctlyRounded_of_inRange {r : ℕ × Bool} {tiny : Bool} (ha : 0 < a)
    (hover : ¬Overflows fmt env.mode (signOf neg * a))
    (hr : Quantized env.mode neg a (minQuantum fmt + J) r)
    (hJ : J = 0 ∨ 2 ^ (layout fmt).fracBits * 2 ^ (minQuantum fmt + J) ≤ a)
    (hhi : a < 2 ^ ((layout fmt).fracBits + 1) * 2 ^ (minQuantum fmt + J))
    (hk : J * 2 ^ (layout fmt).fracBits + r.1 < infMagnitude fmt)
    (htiny : tiny = true ↔ IsTiny fmt env.mode (signOf neg * a)) :
    CorrectlyRounded fmt env (signOf neg * a) ⟨.bits (packBits fmt neg (J * 2 ^ (layout fmt).fracBits + r.1)),
      excIf r.2 excI ||| excIf (tiny && (r.2 || env.underflowEnabled)) excU⟩ := by
  have hval : valueOf fmt (packBits fmt neg (J * 2 ^ (layout fmt).fracBits + r.1)) =
      some (signOf neg * (r.1 * 2 ^ (minQuantum fmt + J))) := by
    rw [valueOf_packBits neg hk, gridValue_scaled fmt (hJ.imp_right hr.ge) (hr.le hhi)]
  have hinexact : r.2 = true ↔ ((signOf neg * (r.1 * 2 ^ (minQuantum fmt + J)) : ℚ) : ℝ) ≠ signOf neg * a := by
    rw [Rat.cast_mul, cast_units, hr.inexact_iff]
    cases neg <;> simp
  have hnone : ∀ t : ℕ, t * (2 : ℝ) ^ (minQuantum fmt + J) ≤ a → a < (t + 1) * (2 : ℝ) ^ (minQuantum fmt + J) →
      NoneBetween fmt (minQuantum fmt + J) t := by
    intro t ht ht'
    have hpos : (0 : ℝ) ≤ 2 ^ (minQuantum fmt + J) := by positivity
    refine noneBetween_of_scaled fmt (hJ.imp_right fun h => ?_) ?_
    · exact Nat.lt_succ_iff.1 (by exact_mod_cast lt_of_mul_lt_mul_right (h.trans_lt ht') hpos)
    · exact_mod_cast lt_of_mul_lt_mul_right (ht.trans_lt hhi) hpos
  refine ⟨_, rfl, ?_, fun h => absurd h hover, fun _ => ⟨_, hval, ?_, ?_, ?_, exc_and_VZO _ _⟩⟩
  · rw [signOf_mul_neg_iff neg ha, signField_packBits neg (hk.trans (infMagnitude_lt fmt))]
  · rw [getLsbD_packBits_zero, scaled_mod_two, not_decide_odd]
    exact isRounded_signed hr hnone
  · rw [exc_and_excI, hinexact]
  · rw [exc_and_excU, Bool.and_eq_true, Bool.or_eq_true, htiny, hinexact]

/-- The rounded magnitude reaches infinity's exactly if the rounding without a bound on the exponent overflows. -/
theorem infMagnitude_le_iff {r r' : ℕ × Bool} (hlo : 2 ^ (layout fmt).fracBits * 2 ^ q ≤ a)
    (hhi : a < 2 ^ ((layout fmt).fracBits + 1) * 2 ^ q) (hJ : max q (minQuantum fmt) = minQuantum fmt + J)
    (hr : Quantized env.mode neg a (max q (minQuantum fmt)) r) (hr' : Quantized env.mode neg a q r')
    (heq : minQuantum fmt ≤ q → r = r') (hle : r.1 ≤ 2 ^ ((layout fmt).fracBits + 1)) :
    infMagnitude fmt ≤ J * 2 ^ (layout fmt).fracBits + r.1 ↔ Overflows fmt env.mode (signOf neg * a) := by
  rw [Overflows, overflowBound, roundsUpTo_iff hlo hhi hr', topQuantum_eq]
  have hexp : 3 ≤ expOnes fmt := by cases fmt <;> decide
  have hpow : 2 ^ ((layout fmt).fracBits + 1) = 2 * 2 ^ (layout fmt).fracBits := pow_succ' 2 _
  have hP : 0 < 2 ^ (layout fmt).fracBits := by positivity
  rw [infMagnitude]
  rcases lt_or_ge q (minQuantum fmt) with hsub | hnormal
  · obtain rfl : J = 0 := by omega
    refine iff_of_false ?_ (by omega)
    have := Nat.mul_le_mul_right (2 ^ (layout fmt).fracBits) hexp
    omega
  · obtain rfl := heq hnormal
    have hge := hr'.ge hlo
    rcases lt_trichotomy J (expOnes fmt - 2) with hlt | hJeq | hgt
    · refine iff_of_false ?_ (by omega)
      have := Nat.mul_le_mul_right (2 ^ (layout fmt).fracBits) (show J + 3 ≤ expOnes fmt by omega)
      rw [add_mul] at this
      omega
    · have hsum : expOnes fmt * 2 ^ (layout fmt).fracBits =
          J * 2 ^ (layout fmt).fracBits + 2 * 2 ^ (layout fmt).fracBits := by rw [← add_mul]; congr 1; omega
      omega
    · refine iff_of_true ?_ (by omega)
      have := Nat.mul_le_mul_right (2 ^ (layout fmt).fracBits) (show expOnes fmt ≤ J + 1 by omega)
      rw [add_mul] at this
      omega

/-- `roundFinite` rounds every magnitude that `m * 2^e` stands for at half the unit of the result. -/
theorem correctlyRounded_roundFinite (fmt : FpFormat) (env : FpEnv) (neg : Bool) (hm : m ≠ 0)
    (ha : SameOrder (m * 2 ^ e) a (m.log2 + e - (layout fmt).fracBits - 1)) :
    CorrectlyRounded fmt env (signOf neg * a) (roundFinite fmt env neg m e) := by
  generalize hq : m.log2 + e - (layout fmt).fracBits = q at ha
  obtain ⟨J, hJ⟩ : ∃ J : ℕ, max q (minQuantum fmt) = minQuantum fmt + J :=
    ⟨(max q (minQuantum fmt) - minQuantum fmt).toNat, by omega⟩
  have hresult : resultQuantum fmt m e = max q (minQuantum fmt) := by rw [resultQuantum, hq]
  obtain ⟨hlo, hhi⟩ := log2_bounds hm e (layout fmt).fracBits
  rw [hq] at hlo hhi
  have hlo' : 2 ^ (layout fmt).fracBits * 2 ^ q ≤ a := by
    have := ha.le_iff (2 ^ (layout fmt).fracBits) (p := q) (by omega)
    push_cast at this
    exact this.2 hlo
  have hhi' : a < 2 ^ ((layout fmt).fracBits + 1) * 2 ^ q := by
    have := ha.gt_iff (2 ^ ((layout fmt).fracBits + 1)) (p := q) (by omega)
    push_cast at this
    exact this.2 hhi
  have hpos : 0 < a := lt_of_lt_of_le (by positivity) hlo'
  have hr := (quantized_quantize env.mode neg m e (max q (minQuantum fmt))).of_sameOrder (ha.mono (by omega))
  have hr' := (quantized_quantize env.mode neg m e q).of_sameOrder ha
  have hbelow : a < 2 ^ ((layout fmt).fracBits + 1) * 2 ^ max q (minQuantum fmt) :=
    hhi'.trans_le (mul_le_mul_of_nonneg_left (zpow_le_zpow_right₀ one_le_two (le_max_left _ _)) (by positivity))
  have hover := infMagnitude_le_iff hlo' hhi' hJ hr hr' (fun h => by rw [max_eq_left h]) (hr.le hbelow)
  rw [roundFinite_eq fmt env neg m e (hresult.trans hJ) rfl rfl, hresult, hq]
  by_cases hinf : infMagnitude fmt ≤ J * 2 ^ (layout fmt).fracBits + (quantize env.mode neg m e (max q (minQuantum fmt))).1
  · rw [if_pos hinf]
    exact correctlyRounded_of_overflows hpos (hover.1 hinf)
  · rw [if_neg hinf]
    refine correctlyRounded_of_inRange hpos (fun h => hinf (hover.2 h)) (hJ ▸ hr) ?_ (hJ ▸ hbelow) (not_le.1 hinf)
      (takenForTiny_iff hlo' hhi' hr')
    rcases le_or_gt q (minQuantum fmt) with h | h
    · exact .inl (by omega)
    · exact .inr (by rwa [← hJ, max_eq_left h.le])

/-- The exact value. -/
theorem correctlyRounded_finiteValue (fmt : FpFormat) (env : FpEnv) (neg : Bool) (m : ℕ) (e : ℤ) (hm : m ≠ 0) :
    CorrectlyRounded fmt env (finiteValue neg m e : ℚ) (roundFinite fmt env neg m e) := by
  have h := correctlyRounded_roundFinite fmt env neg hm (SameOrder.refl (m * 2 ^ e) (m.log2 + e - (layout fmt).fracBits - 1))
  rwa [← cast_units, ← Rat.cast_mul, ← finiteValue_eq] at h

end RoundFinite

/-- Settles O49: `roundFinite` on the exact value. -/
theorem roundingIsCorrect : Obligations.RoundingIsCorrect := correctlyRounded_finiteValue

end Sys2Proof.Machine
end

section
/-! PROOFS. The operations on finite operands (47_fp_arith.md R236): sums and products are exact before the one rounding; a
quotient and a square root keep so many bits, and a last bit for the remainder, that they stand for the exact value. -/

namespace Sys2Proof.Machine

/-! ### Finite values -/

theorem finiteValue_eq_zero_iff {neg : Bool} {m : ℕ} {e : ℤ} : finiteValue neg m e = 0 ↔ m = 0 := by
  have hunit : (2 : ℚ) ^ e ≠ 0 := by positivity
  rw [finiteValue_eq]
  cases neg <;> simp [hunit]

theorem finiteValue_not (neg : Bool) (m : ℕ) (e : ℤ) : finiteValue (!neg) m e = -finiteValue neg m e := by
  rw [finiteValue_eq, finiteValue_eq]
  cases neg <;> simp

theorem finiteValue_mul (na nb : Bool) (ma mb : ℕ) (ea eb : ℤ) :
    finiteValue na ma ea * finiteValue nb mb eb = finiteValue (na != nb) (ma * mb) (ea + eb) := by
  simp only [finiteValue_eq, zpow_add₀ (two_ne_zero (α := ℚ)), Nat.cast_mul]
  cases na <;> cases nb <;> simp <;> ring

theorem finiteValue_div (na nb : Bool) (ma mb : ℕ) (ea eb : ℤ) :
    finiteValue na ma ea / finiteValue nb mb eb = signOf (na != nb) * (ma / mb * 2 ^ (ea - eb)) := by
  simp only [finiteValue_eq, zpow_sub₀ (two_ne_zero (α := ℚ))]
  cases na <;> cases nb <;> simp [neg_div, div_neg] <;> ring

/-- `scaled` is the value in units of `2^q`. -/
theorem scaled_mul (neg : Bool) (m : ℕ) {e q : ℤ} (h : q ≤ e) : (scaled neg m e q : ℚ) * 2 ^ q = finiteValue neg m e := by
  have hunit : (2 : ℚ) ^ (e - q).toNat * 2 ^ q = 2 ^ e := by
    rw [← zpow_natCast, ← zpow_add₀ two_ne_zero, Int.toNat_of_nonneg (by omega), sub_add_cancel]
  rw [finiteValue_eq, ← hunit]
  cases neg <;> simp [scaled] <;> ring

theorem intCast_eq_finiteValue (n : ℤ) (q : ℤ) : (n : ℚ) * 2 ^ q = finiteValue (decide (n < 0)) n.natAbs q := by
  rw [finiteValue_eq, ← mul_assoc]
  congr 1
  rcases lt_or_ge n 0 with h | h
  · rw [decide_eq_true h, signOf_true, Nat.cast_natAbs, abs_of_neg h]
    push_cast
    ring
  · rw [decide_eq_false h.not_gt, signOf_false, Nat.cast_natAbs, abs_of_nonneg h, one_mul]

/-! ### One rounding -/

/-- `v` is rounded once, or is 0 and the result is a zero of the sign `neg`. -/
def RoundedOnce (fmt : FpFormat) (env : FpEnv) (v : ℚ) (neg : Bool) (o : FpOut) : Prop :=
  (v ≠ 0 → CorrectlyRounded fmt env (v : ℚ) o) ∧ (v = 0 → o = zeroResult fmt neg)

theorem roundedOnce_roundValue (fmt : FpFormat) (env : FpEnv) (neg : Bool) (m : ℕ) (e : ℤ) :
    RoundedOnce fmt env (finiteValue neg m e) neg (roundValue fmt env neg m e) := by
  rw [RoundedOnce, Ne, finiteValue_eq_zero_iff, roundValue]
  refine ⟨fun hm => ?_, fun hm => if_pos hm⟩
  rw [if_neg hm]
  exact correctlyRounded_finiteValue fmt env neg m e hm

theorem roundedOnce_addFinite (fmt : FpFormat) (env : FpEnv) (na nb : Bool) (ma mb : ℕ) (ea eb : ℤ) :
    RoundedOnce fmt env (finiteValue na ma ea + finiteValue nb mb eb) (if na = nb then na else decide (env.mode = .rm))
      (addFinite fmt env na ma ea nb mb eb) := by
  rw [← scaled_mul na ma (min_le_left ea eb), ← scaled_mul nb mb (min_le_right ea eb), ← add_mul, ← Int.cast_add,
    addFinite]
  generalize scaled na ma ea (min ea eb) + scaled nb mb eb (min ea eb) = sum
  rw [intCast_eq_finiteValue, RoundedOnce, Ne, finiteValue_eq_zero_iff, Int.natAbs_eq_zero]
  refine ⟨fun h => ?_, fun h => if_pos h⟩
  rw [if_neg h]
  exact correctlyRounded_finiteValue fmt env _ _ _ (Int.natAbs_ne_zero.2 h)

section Operations
variable {fmt : FpFormat} {a b c : DWord} {x y z : ℚ} (env : FpEnv)

theorem roundedOnce_fpAdd (ha : valueOf fmt a = some x) (hb : valueOf fmt b = some y) :
    RoundedOnce fmt env (x + y) (if signField fmt a = signField fmt b then signField fmt a else decide (env.mode = .rm))
      (fpAdd fmt env a b) := by
  obtain ⟨ma, ea, hua, rfl, -⟩ := unpack_of_valueOf ha
  obtain ⟨mb, eb, hub, rfl, -⟩ := unpack_of_valueOf hb
  rw [fpAdd, hua, hub]
  exact roundedOnce_addFinite fmt env _ _ ma mb ea eb

theorem roundedOnce_fpSub (ha : valueOf fmt a = some x) (hb : valueOf fmt b = some y) :
    RoundedOnce fmt env (x - y) (if signField fmt a = !signField fmt b then signField fmt a else decide (env.mode = .rm))
      (fpSub fmt env a b) := by
  obtain ⟨ma, ea, hua, rfl, -⟩ := unpack_of_valueOf ha
  obtain ⟨mb, eb, hub, rfl, -⟩ := unpack_of_valueOf hb
  rw [fpSub, hua, hub, sub_eq_add_neg, ← finiteValue_not]
  exact roundedOnce_addFinite fmt env _ _ ma mb ea eb

theorem roundedOnce_fpMul (ha : valueOf fmt a = some x) (hb : valueOf fmt b = some y) :
    RoundedOnce fmt env (x * y) (signField fmt a != signField fmt b) (fpMul fmt env a b) := by
  obtain ⟨ma, ea, hua, rfl, -⟩ := unpack_of_valueOf ha
  obtain ⟨mb, eb, hub, rfl, -⟩ := unpack_of_valueOf hb
  rw [fpMul, hua, hub, finiteValue_mul]
  exact roundedOnce_roundValue fmt env _ _ _

/-- The fused sum of finite operands is the exact sum of the exact product. -/
theorem fpFma_of_fin {na nb nc : Bool} {ma mb mc : ℕ} {ea eb ec : ℤ} (op : FpOp) (negateAddend : Bool)
    (ha : unpack fmt a = .fin na ma ea) (hb : unpack fmt b = .fin nb mb eb) (hc : unpack fmt c = .fin nc mc ec) :
    fpFma op fmt env negateAddend a b c =
      addFinite fmt env (na != nb) (ma * mb) (ea + eb) (nc != negateAddend) mc ec := by
  rw [fpFma, ha, hb, hc]
  cases negateAddend <;> cases nc <;> rfl

theorem roundedOnce_fpFma (op : FpOp) (negateAddend : Bool) (ha : valueOf fmt a = some x) (hb : valueOf fmt b = some y)
    (hc : valueOf fmt c = some z) :
    RoundedOnce fmt env (x * y + if negateAddend then -z else z)
      (if (signField fmt a != signField fmt b) = (signField fmt c != negateAddend) then (signField fmt c != negateAddend)
        else decide (env.mode = .rm))
      (fpFma op fmt env negateAddend a b c) := by
  obtain ⟨ma, ea, hua, rfl, -⟩ := unpack_of_valueOf ha
  obtain ⟨mb, eb, hub, rfl, -⟩ := unpack_of_valueOf hb
  obtain ⟨mc, ec, huc, rfl, -⟩ := unpack_of_valueOf hc
  have hsign : (if negateAddend then -finiteValue (signField fmt c) mc ec else finiteValue (signField fmt c) mc ec) =
      finiteValue (signField fmt c != negateAddend) mc ec := by
    cases negateAddend <;> simp [finiteValue_not]
  have h := roundedOnce_addFinite fmt env (signField fmt a != signField fmt b) (signField fmt c != negateAddend)
    (ma * mb) mc (ea + eb) ec
  have hzero : ∀ p q d : Bool, (if p = q then q else d) = if p = q then p else d := by decide
  rwa [fpFma_of_fin env op negateAddend hua hub huc, hsign, finiteValue_mul, hzero]

end Operations

/-- Settles O50: the sum in units of the smaller exponent is exact, so it is rounded once. -/
theorem additionIsExact : Obligations.AdditionIsExact := by
  intro fmt env a b x y ha hb
  obtain ⟨hadd, hadd0⟩ := roundedOnce_fpAdd env ha hb
  obtain ⟨hsub, hsub0⟩ := roundedOnce_fpSub env ha hb
  refine ⟨hadd, hsub, hadd0, fun h => (hsub0 h).trans ?_⟩
  cases signField fmt a <;> cases signField fmt b <;> rfl

/-- Settles O51: the product is exact, and the fused sum adds it before the one rounding. -/
theorem productIsExact : Obligations.ProductIsExact := by
  intro fmt env a b c x y z op ha hb hc
  obtain ⟨hmul, hmul0⟩ := roundedOnce_fpMul env ha hb
  obtain ⟨hsum, hsum0⟩ := roundedOnce_fpFma env op false ha hb hc
  obtain ⟨hdiff, hdiff0⟩ := roundedOnce_fpFma env op true ha hb hc
  simp only [Bool.bne_false, Bool.bne_true, if_true, Bool.false_eq_true, if_false, ← sub_eq_add_neg] at hsum hsum0 hdiff hdiff0
  exact ⟨hmul, hmul0, hsum, hdiff, hsum0, hdiff0⟩

/-! ### A last bit for the remainder -/

/-- Twice the integer below `b`, and 1 where `b` is not that integer, stands for `2 * b`. -/
theorem sameOrder_floor {Q s F : ℕ} {b : ℝ} (hlo : (Q : ℝ) ≤ b) (hhi : b < Q + 1)
    (hs : s = 0 ∧ (Q : ℝ) = b ∨ s = 1 ∧ (Q : ℝ) ≠ b) (hQ : 2 ^ (F + 1) ≤ Q) (e : ℤ) :
    SameOrder ((2 * Q + s : ℕ) * 2 ^ e) (b * 2 ^ (e + 1)) ((2 * Q + s : ℕ).log2 + e - F - 1) := by
  have hpos : (0 : ℝ) < 2 ^ e := by positivity
  have hdouble : b * (2 : ℝ) ^ (e + 1) = 2 * b * 2 ^ e := by rw [zpow_add_one₀ two_ne_zero]; ring
  rw [hdouble]
  rcases hs with ⟨rfl, hb⟩ | ⟨rfl, hb⟩
  · rw [← hb, Nat.add_zero, Nat.cast_mul, Nat.cast_ofNat]
    exact SameOrder.refl _ _
  · have hbits : F + 2 ≤ (2 * Q + 1).log2 := by
      rw [Nat.le_log2 (by omega)]
      have : 2 ^ (F + 2) = 2 * 2 ^ (F + 1) := pow_succ' 2 _
      omega
    refine SameOrder.mono (sameOrder_sticky (by omega) ?_ ?_) (by omega : e + 1 ≤ _)
    · refine mul_lt_mul_of_pos_right ?_ hpos
      have := hlo.lt_of_ne hb
      push_cast
      linarith
    · refine mul_lt_mul_of_pos_right ?_ hpos
      push_cast
      linarith

/-! ### Division -/

theorem correctlyRounded_divFinite (fmt : FpFormat) (env : FpEnv) (neg : Bool) {ma mb : ℕ} (ea eb : ℤ) (ha : ma ≠ 0)
    (hb : mb ≠ 0) (hlt : mb < 2 ^ ((layout fmt).fracBits + 1)) :
    CorrectlyRounded fmt env (signOf neg * (ma / mb * 2 ^ (ea - eb)) : ℚ) (divFinite fmt env neg ma ea mb eb) := by
  rw [divFinite]
  generalize hF : (layout fmt).fracBits = F at *
  generalize hnum : ma * 2 ^ (2 * F + 4) = num
  have hmb : (0 : ℝ) < mb := by exact_mod_cast Nat.pos_of_ne_zero hb
  have hdiv : (num : ℝ) = num / mb * mb := (div_mul_cancel₀ _ hmb.ne').symm
  have hnat : ((num / mb : ℕ) : ℝ) * mb + (num % mb : ℕ) = num := by exact_mod_cast Nat.div_add_mod' num mb
  have hrem : ((num % mb : ℕ) : ℝ) < mb := by exact_mod_cast Nat.mod_lt num (Nat.pos_of_ne_zero hb)
  have hlo : ((num / mb : ℕ) : ℝ) ≤ num / mb := Nat.cast_div_le
  have hhi : (num / mb : ℝ) < (num / mb : ℕ) + 1 := by
    rw [div_lt_iff₀ hmb]
    linarith
  have hexact : ((num / mb : ℕ) : ℝ) = num / mb ↔ num % mb = 0 := by
    rw [eq_div_iff hmb.ne', ← hnat, left_eq_add, Nat.cast_eq_zero]
  have hQ : 2 ^ (F + 1) ≤ num / mb := by
    rw [Nat.le_div_iff_mul_le (Nat.pos_of_ne_zero hb), ← hnum]
    calc 2 ^ (F + 1) * mb ≤ 2 ^ (F + 1) * 2 ^ (F + 1) := Nat.mul_le_mul_left _ hlt.le
      _ = 2 ^ (2 * F + 2) := by rw [← pow_add]; ring_nf
      _ ≤ 2 ^ (2 * F + 4) := Nat.pow_le_pow_right two_pos (by omega)
      _ ≤ ma * 2 ^ (2 * F + 4) := Nat.le_mul_of_pos_left _ (Nat.pos_of_ne_zero ha)
  have hs : (if num % mb = 0 then 0 else 1) = 0 ∧ ((num / mb : ℕ) : ℝ) = num / mb ∨
      (if num % mb = 0 then 0 else 1) = 1 ∧ ((num / mb : ℕ) : ℝ) ≠ num / mb := by
    rw [Ne, hexact]
    by_cases h : num % mb = 0 <;> simp [h]
  have hm : 2 * (num / mb) + (if num % mb = 0 then 0 else 1) ≠ 0 := by
    have := Nat.one_le_two_pow (n := F + 1)
    omega
  have hsame := sameOrder_floor hlo hhi hs hQ (ea - eb - (2 * F + 4 : ℕ) - 1)
  rw [← hF] at hsame
  have hval : ((signOf neg * (ma / mb * 2 ^ (ea - eb)) : ℚ) : ℝ) =
      signOf neg * (num / mb * 2 ^ (ea - eb - (2 * F + 4 : ℕ) - 1 + 1)) := by
    have hunit : (2 : ℝ) ^ (ea - eb - (2 * F + 4 : ℕ)) = 2 ^ (ea - eb) / 2 ^ (2 * F + 4) := by
      rw [zpow_sub₀ two_ne_zero, zpow_natCast]
    rw [sub_add_cancel, hunit, ← hnum]
    push_cast
    field_simp
  rw [roundValue, if_neg hm, hval, ← hF]
  exact correctlyRounded_roundFinite fmt env neg hm hsame

theorem roundedOnce_fpDiv {fmt : FpFormat} (env : FpEnv) {a b : DWord} {x y : ℚ} (ha : valueOf fmt a = some x)
    (hb : valueOf fmt b = some y) (hy : y ≠ 0) :
    RoundedOnce fmt env (x / y) (signField fmt a != signField fmt b) (fpDiv fmt env a b) := by
  obtain ⟨ma, ea, hua, rfl, -⟩ := unpack_of_valueOf ha
  obtain ⟨mb, eb, hub, rfl, hlt, -⟩ := unpack_of_valueOf hb
  rw [Ne, finiteValue_eq_zero_iff] at hy
  rw [fpDiv, hua, hub]
  simp only [divValues, if_neg hy]
  rw [RoundedOnce, Ne, div_eq_zero_iff, finiteValue_eq_zero_iff, finiteValue_eq_zero_iff, or_iff_left hy]
  refine ⟨fun hma => ?_, fun hma => ?_⟩
  · rw [finiteValue_div]
    exact correctlyRounded_divFinite fmt env _ ea eb hma hy hlt
  · simp [hma, divFinite, roundValue]

/-- Settles O52: the integer quotient with its last bit for the remainder stands for the exact one. -/
theorem quotientIsCorrect : Obligations.QuotientIsCorrect := by
  intro fmt env a b x y ha hb hy
  obtain ⟨hdiv, hdiv0⟩ := roundedOnce_fpDiv env ha hb hy
  exact ⟨fun hx => hdiv (div_ne_zero hx hy), fun hx => hdiv0 (by rw [hx, zero_div])⟩

/-! ### Square root -/

/-- Bit by bit the root stays the greatest multiple of the bit whose square does not exceed `n`. -/
theorem isqrtFrom_spec (n k root : ℕ) (hle : root * root ≤ n) (hlt : n < (root + 2 ^ k) * (root + 2 ^ k)) :
    isqrtFrom n k root * isqrtFrom n k root ≤ n ∧ n < (isqrtFrom n k root + 1) * (isqrtFrom n k root + 1) := by
  induction k generalizing root with
  | zero => exact ⟨hle, hlt⟩
  | succ k ih =>
    rw [isqrtFrom]
    have hbit : root + 2 ^ (k + 1) = root + 2 ^ k + 2 ^ k := by ring
    by_cases h : (root + 2 ^ k) * (root + 2 ^ k) ≤ n
    · rw [if_pos h]
      exact ih _ h (hbit ▸ hlt)
    · rw [if_neg h]
      exact ih _ hle (not_le.1 h)

theorem isqrt_spec (n : ℕ) : isqrt n * isqrt n ≤ n ∧ n < (isqrt n + 1) * (isqrt n + 1) := by
  refine isqrtFrom_spec n _ 0 (by omega) ?_
  rw [Nat.zero_add, ← pow_add]
  exact Nat.lt_log2_self.trans_le (Nat.pow_le_pow_right two_pos (by omega))

theorem correctlyRounded_sqrtFinite (fmt : FpFormat) (env : FpEnv) {m : ℕ} (e : ℤ) (hm : m ≠ 0) :
    CorrectlyRounded fmt env (Real.sqrt (m * 2 ^ e)) (sqrtFinite fmt env m e) := by
  rw [sqrtFinite]
  generalize hF : (layout fmt).fracBits = F at *
  generalize hk : 2 * F + 6 + (e % 2).toNat = k
  generalize hn : m * 2 ^ k = n
  obtain ⟨hle, hlt⟩ := isqrt_spec n
  have hlo : (isqrt n : ℝ) ≤ Real.sqrt n := Real.le_sqrt_of_sq_le (by rw [sq]; exact_mod_cast hle)
  have hhi : Real.sqrt n < isqrt n + 1 := (Real.sqrt_lt' (by positivity)).2 (by rw [sq]; exact_mod_cast hlt)
  have hexact : (isqrt n : ℝ) = Real.sqrt n ↔ isqrt n * isqrt n = n := by
    rw [eq_comm, Real.sqrt_eq_iff_mul_self_eq (Nat.cast_nonneg _) (Nat.cast_nonneg _)]
    norm_cast
    exact eq_comm
  have hQ : 2 ^ (F + 1) ≤ isqrt n := by
    have hsq : 2 ^ (F + 1) * 2 ^ (F + 1) ≤ n := by
      rw [← pow_add, ← hn]
      exact (Nat.pow_le_pow_right two_pos (by omega)).trans (Nat.le_mul_of_pos_left _ (Nat.pos_of_ne_zero hm))
    exact Nat.lt_succ_iff.1 (Nat.mul_self_lt_mul_self_iff.1 (hsq.trans_lt hlt))
  have hs : (if isqrt n * isqrt n = n then 0 else 1) = 0 ∧ (isqrt n : ℝ) = Real.sqrt n ∨
      (if isqrt n * isqrt n = n then 0 else 1) = 1 ∧ (isqrt n : ℝ) ≠ Real.sqrt n := by
    rw [Ne, hexact]
    by_cases h : isqrt n * isqrt n = n <;> simp [h]
  have hne : 2 * isqrt n + (if isqrt n * isqrt n = n then 0 else 1) ≠ 0 := by
    have := Nat.one_le_two_pow (n := F + 1)
    omega
  have hsame := sameOrder_floor hlo hhi hs hQ ((e - k) / 2 - 1)
  have hval : Real.sqrt (m * 2 ^ e) = signOf false * (Real.sqrt n * 2 ^ ((e - k) / 2 - 1 + 1)) := by
    have heven : e = k + (e - k) / 2 + (e - k) / 2 := by omega
    have hsquare : (m : ℝ) * 2 ^ e = n * (2 ^ ((e - k) / 2) * 2 ^ ((e - k) / 2)) := by
      conv_lhs => rw [heven, zpow_add₀ two_ne_zero, zpow_add₀ two_ne_zero, zpow_natCast]
      rw [← hn]
      push_cast
      ring
    rw [hsquare, Real.sqrt_mul (Nat.cast_nonneg _), Real.sqrt_mul_self (by positivity), sub_add_cancel, signOf_false,
      Rat.cast_one, one_mul]
  rw [hval]
  rw [← hF] at hsame
  exact correctlyRounded_roundFinite fmt env false hne hsame

/-- A positive value has a positive sign and no zero integer. -/
theorem pos_finiteValue {neg : Bool} {m : ℕ} {e : ℤ} (h : 0 < finiteValue neg m e) : neg = false ∧ m ≠ 0 := by
  have hm : m ≠ 0 := fun hm => h.ne' (finiteValue_eq_zero_iff.2 hm)
  refine ⟨?_, hm⟩
  cases neg with
  | false => rfl
  | true =>
    have : (0 : ℚ) ≤ m * 2 ^ e := by positivity
    rw [finiteValue_eq, signOf_true] at h
    linarith

/-- Settles O53: the integer root with its last bit for the remainder stands for the exact one. -/
theorem squareRootIsCorrect : Obligations.SquareRootIsCorrect := by
  intro fmt env a x ha hx
  obtain ⟨m, e, hua, rfl, -⟩ := unpack_of_valueOf ha
  obtain ⟨hsign, hm⟩ := pos_finiteValue hx
  rw [fpSqrt, hua]
  simp only [if_neg hm, hsign, Bool.false_eq_true, if_false]
  rw [finiteValue_eq, signOf_false, one_mul, cast_units]
  exact correctlyRounded_sqrtFinite fmt env e hm

end Sys2Proof.Machine
end

section
/-! PROOFS. Overflow and underflow of every operation on finite operands (47_fp_arith.md R232): each is rounded once, and the
rest follows from what correct rounding says of O, U, V and Z. -/

namespace Sys2Proof.Machine

/-- Every operation on finite operands rounds its exact value once. -/
theorem FiniteOperation.correctlyRounded {fmt : FpFormat} {env : FpEnv} {v : ℚ} {o : FpOut}
    (h : FiniteOperation fmt env v o) (hv : v ≠ 0) : CorrectlyRounded fmt env v o := by
  cases h with
  | rounding neg m e => exact (roundedOnce_roundValue fmt env neg m e).1 hv
  | sum a b x y ha hb => exact (roundedOnce_fpAdd env ha hb).1 hv
  | difference a b x y ha hb => exact (roundedOnce_fpSub env ha hb).1 hv
  | product a b x y ha hb => exact (roundedOnce_fpMul env ha hb).1 hv
  | quotient a b x y ha hb hy => exact (roundedOnce_fpDiv env ha hb hy).1 hv
  | fusedSum op a b c x y z ha hb hc =>
    have h := (roundedOnce_fpFma env op false ha hb hc).1
    simp only [Bool.false_eq_true, if_false] at h
    exact h hv
  | fusedDifference op a b c x y z ha hb hc =>
    have h := (roundedOnce_fpFma env op true ha hb hc).1
    simp only [if_true, ← sub_eq_add_neg] at h
    exact h hv
  | conversion src a x ha =>
    obtain ⟨m, e, hua, rfl, -⟩ := unpack_of_valueOf ha
    rw [fpConvert, hua]
    exact (roundedOnce_roundValue fmt env _ m e).1 hv
  | integer n =>
    have hn : (n : ℚ) = finiteValue (decide (n < 0)) n.natAbs 0 := by
      rw [← intCast_eq_finiteValue, zpow_zero, mul_one]
    have h := (roundedOnce_roundValue fmt env (decide (n < 0)) n.natAbs 0).1
    rw [← hn] at h
    exact h hv

/-! ### What correct rounding says of the exceptions -/

theorem overflow_exc : (excO ||| excI) &&& excO ≠ 0 := by decide

theorem and_excO_of_VZO {exc : FpExc} : exc &&& (excV ||| excZ ||| excO) = 0 → exc &&& excO = 0 := by
  revert exc; decide

theorem and_VZ_of_VZO {exc : FpExc} : exc &&& (excV ||| excZ ||| excO) = 0 → exc &&& (excV ||| excZ) = 0 := by
  revert exc; decide

theorem and_not_excI {exc : FpExc} :
    exc &&& (excV ||| excZ ||| excO) = 0 → exc &&& excU = 0 → exc &&& ~~~excI = 0 := by
  revert exc; decide

/-- The largest finite number is one unit below the power of two above it. -/
theorem maxFinite_eq (fmt : FpFormat) : maxFinite fmt = overflowBound fmt - 2 ^ topQuantum fmt := by
  rw [maxFinite, overflowBound, sub_mul, one_mul]

section Rounded
variable {fmt : FpFormat} {env : FpEnv} {x : ℝ} {o : FpOut}

theorem overflows_of_bound_le (mode : RoundMode) (h : (overflowBound fmt : ℝ) ≤ |x|) : Overflows fmt mode x :=
  roundsUpTo_of_le mode (by positivity) h

theorem not_overflows_of_le (mode : RoundMode) (h : |x| ≤ (maxFinite fmt : ℝ)) : ¬Overflows fmt mode x :=
  not_roundsUpTo_of_le mode (by positivity) (by rwa [← maxFinite_eq])

theorem not_isTiny_of_le (mode : RoundMode) (h : (minNormal fmt : ℝ) ≤ |x|) : ¬IsTiny fmt mode x := by
  rintro (hround | ⟨-, hlt⟩)
  · exact hround (roundsUpTo_of_le mode (by positivity) h)
  · exact hlt.not_ge h

/-- Below the last number before the smallest normal one a value is tiny even after rounding. -/
theorem isTiny_of_le (mode : RoundMode)
    (h : |x| ≤ (((2 ^ ((layout fmt).fracBits + 1) - 1) * 2 ^ (minQuantum fmt - 1) : ℚ) : ℝ)) : IsTiny fmt mode x := by
  refine .inl (not_roundsUpTo_of_le mode (by positivity) ?_)
  rwa [minNormal_eq, ← sub_one_mul]

theorem CorrectlyRounded.excO_iff (h : CorrectlyRounded fmt env x o) : o.exc &&& excO ≠ 0 ↔ Overflows fmt env.mode x := by
  obtain ⟨w, -, -, hover, hin⟩ := h
  by_cases hx : Overflows fmt env.mode x
  · exact iff_of_true (by rw [(hover hx).1]; exact overflow_exc) hx
  · obtain ⟨r, -, -, -, -, hexc⟩ := hin hx
    exact iff_of_false (not_not.2 (and_excO_of_VZO hexc)) hx

theorem CorrectlyRounded.excVZ (h : CorrectlyRounded fmt env x o) : o.exc &&& (excV ||| excZ) = 0 := by
  obtain ⟨w, -, -, hover, hin⟩ := h
  by_cases hx : Overflows fmt env.mode x
  · rw [(hover hx).1]; decide
  · obtain ⟨r, -, -, -, -, hexc⟩ := hin hx
    exact and_VZ_of_VZO hexc

theorem CorrectlyRounded.excU_eq_zero (h : CorrectlyRounded fmt env x o) (hx : (minNormal fmt : ℝ) ≤ |x|) :
    o.exc &&& excU = 0 := by
  obtain ⟨w, -, -, hover, hin⟩ := h
  by_cases hlarge : Overflows fmt env.mode x
  · rw [(hover hlarge).1]; decide
  · obtain ⟨r, -, -, -, hU, -⟩ := hin hlarge
    exact not_not.1 fun hne => not_isTiny_of_le env.mode hx (hU.1 hne).1

/-- Below the last number before the smallest normal one, in range of the format, U needs only I or its enable. -/
theorem CorrectlyRounded.excU_iff (h : CorrectlyRounded fmt env x o) (hin : ¬Overflows fmt env.mode x)
    (hx : IsTiny fmt env.mode x) : o.exc &&& excU ≠ 0 ↔ o.exc &&& excI ≠ 0 ∨ env.underflowEnabled = true := by
  obtain ⟨w, -, -, -, hrounded⟩ := h
  obtain ⟨r, -, -, hI, hU, -⟩ := hrounded hin
  rw [hU, hI, and_iff_right hx]

end Rounded

/-! ### The overflow result -/

/-- A finite number of the greatest magnitude has the sign of its pattern. -/
theorem valueOf_of_abs_eq_max {fmt : FpFormat} {w : DWord} {r : ℚ} (hr : valueOf fmt w = some r)
    (habs : |r| = maxFinite fmt) : r = if signField fmt w = true then -maxFinite fmt else maxFinite fmt := by
  obtain ⟨-, rfl⟩ := valueOf_eq_some hr
  have h0 := gridValue_nonneg fmt (magnitudeField fmt w)
  rw [← habs]
  cases signField fmt w <;> simp [abs_of_nonneg h0]

theorem CorrectlyRounded.overflowResult {fmt : FpFormat} {env : FpEnv} {v : ℚ} {o : FpOut}
    (h : CorrectlyRounded fmt env v o) (hv : Overflows fmt env.mode v) : o.exc = excO ||| excI ∧ ∃ w, o.res = .bits w ∧
      if env.mode = .rz ∨ (env.mode = .rp ∧ v < 0) ∨ (env.mode = .rm ∧ 0 < v) then
        valueOf fmt w = some (if v < 0 then -maxFinite fmt else maxFinite fmt)
      else unpack fmt w = .inf (decide (v < 0)) := by
  obtain ⟨w, hw, hsign, hover, -⟩ := h
  obtain ⟨hexc, hzero, hinf⟩ := hover hv
  rw [Rat.cast_lt_zero] at hsign
  rw [RoundsTowardZero, Rat.cast_lt_zero, Rat.cast_pos] at hzero hinf
  refine ⟨hexc, w, hw, ?_⟩
  split
  · next hz =>
    obtain ⟨r, hr, habs⟩ := hzero hz
    rw [hr, valueOf_of_abs_eq_max hr habs]
    simp only [hsign]
  · next hz =>
    rw [hinf hz]
    congr 1
    rw [Bool.eq_iff_iff, hsign, decide_eq_true_iff]

/-! ### Square roots -/

theorem one_le_maxFinite (fmt : FpFormat) : 1 ≤ maxFinite fmt := by
  have hone : gridValue fmt ((expOnes fmt / 2) * 2 ^ (layout fmt).fracBits) ≤ gridValue fmt (infMagnitude fmt - 1) :=
    (gridValue_strictMono fmt).monotone (by cases fmt <;> decide)
  rw [gridValue_maxMagnitude] at hone
  refine le_trans (le_of_eq ?_) hone
  cases fmt <;> norm_num [gridValue, minQuantum, expOnes, layout]

/-- The least positive number of a format is not below the square of its least normal one. -/
theorem minNormal_sq_le (fmt : FpFormat) : minNormal fmt ^ 2 ≤ gridValue fmt 1 := by
  have hone : gridValue fmt 1 = 2 ^ minQuantum fmt := by
    have h := gridValue_scaled fmt (J := 0) (n := 1) (.inl rfl) Nat.one_le_two_pow
    simpa using h
  have hsq : minNormal fmt ^ 2 = 2 ^ (2 * ((layout fmt).fracBits + minQuantum fmt)) := by
    rw [minNormal, mul_comm 2, zpow_mul, zpow_add₀ two_ne_zero, zpow_natCast, zpow_ofNat]
  rw [hsq, hone]
  exact zpow_le_zpow_right₀ one_le_two (by cases fmt <;> decide)

/-- The root of a positive number of the format is a normal one, far from overflow. -/
theorem sqrt_inRange {fmt : FpFormat} {w : DWord} {x : ℚ} (hw : valueOf fmt w = some x) (hx : 0 < x) :
    (minNormal fmt : ℝ) ≤ |Real.sqrt x| ∧ |Real.sqrt x| ≤ maxFinite fmt := by
  obtain ⟨hk, hval⟩ := valueOf_eq_some hw
  have hgrid := gridValue_nonneg fmt (magnitudeField fmt w)
  have hxk : x = gridValue fmt (magnitudeField fmt w) := by
    cases hs : signField fmt w with
    | false => rw [hval, hs, signOf_false, one_mul]
    | true => rw [hval, hs, signOf_true] at hx; linarith
  have hpos : 0 < magnitudeField fmt w := (gridValue_strictMono fmt).lt_iff_lt.1 (by rwa [gridValue_zero, ← hxk])
  have hlow : minNormal fmt ^ 2 ≤ x :=
    (minNormal_sq_le fmt).trans (hxk ▸ (gridValue_strictMono fmt).monotone hpos)
  have hhigh : x ≤ maxFinite fmt ^ 2 := by
    have hmax : x ≤ maxFinite fmt := by
      rw [hxk, ← gridValue_maxMagnitude]
      exact (gridValue_strictMono fmt).monotone (by omega)
    exact hmax.trans (le_self_pow₀ (one_le_maxFinite fmt) two_ne_zero)
  rw [abs_of_nonneg (Real.sqrt_nonneg _)]
  refine ⟨Real.le_sqrt_of_sq_le (by exact_mod_cast hlow), Real.sqrt_le_iff.2 ⟨?_, by exact_mod_cast hhigh⟩⟩
  exact_mod_cast maxFinite_nonneg fmt

theorem fpSqrt_of_zero {fmt : FpFormat} {a : DWord} (env : FpEnv) (ha : valueOf fmt a = some 0) :
    fpSqrt fmt env a = zeroResult fmt (signField fmt a) := by
  obtain ⟨m, e, hua, hzero, -⟩ := unpack_of_valueOf ha
  have hm : m = 0 := finiteValue_eq_zero_iff.1 hzero.symm
  rw [fpSqrt, hua]
  exact if_pos hm

/-- A square root raises at most I (R236). -/
theorem fpSqrt_exc {fmt : FpFormat} (env : FpEnv) {a : DWord} {x : ℚ} (ha : valueOf fmt a = some x) (hx : 0 ≤ x) :
    (fpSqrt fmt env a).exc &&& ~~~excI = 0 := by
  rcases hx.eq_or_lt with rfl | hpos
  · rw [fpSqrt_of_zero env ha]
    exact BitVec.zero_and
  · have hround := squareRootIsCorrect fmt env a x ha hpos
    obtain ⟨hmin, hmax⟩ := sqrt_inRange ha hpos
    have hU := hround.excU_eq_zero hmin
    obtain ⟨w, -, -, -, hin⟩ := hround
    obtain ⟨r, -, -, -, -, hexc⟩ := hin (not_overflows_of_le env.mode hmax)
    exact and_not_excI hexc hU

/-- Settles O56: every operation is correctly rounded, and the bounds place its exact value. -/
theorem overflowAndUnderflow : Obligations.OverflowAndUnderflow := by
  refine ⟨fun fmt env v o hop hv => ?_, fun fmt env a x ha hx => fpSqrt_exc env ha hx⟩
  have h := hop.correctlyRounded hv
  have hcast : ∀ b : ℚ, (b : ℝ) ≤ |(v : ℝ)| ↔ b ≤ |v| := fun b => by rw [← Rat.cast_abs, Rat.cast_le]
  have hcast' : ∀ b : ℚ, |(v : ℝ)| ≤ b ↔ |v| ≤ b := fun b => by rw [← Rat.cast_abs, Rat.cast_le]
  refine ⟨h.excO_iff, fun hb => ?_, fun hb => ?_, fun hO => h.overflowResult (h.excO_iff.1 hO), fun hb => ?_, fun hb => ?_,
    h.excVZ⟩
  · exact h.excO_iff.2 (overflows_of_bound_le _ ((hcast _).2 hb))
  · exact not_not.1 fun hO => not_overflows_of_le _ ((hcast' _).2 hb) (h.excO_iff.1 hO)
  · exact h.excU_eq_zero ((hcast _).2 hb)
  · refine h.excU_iff (not_overflows_of_le _ ((hcast' _).2 (hb.trans ?_))) (isTiny_of_le _ ((hcast' _).2 hb))
    rw [maxFinite]
    have hbits : (1 : ℚ) ≤ 2 ^ ((layout fmt).fracBits + 1) := one_le_pow₀ one_le_two
    have hexp : minQuantum fmt - 1 ≤ topQuantum fmt := by cases fmt <;> decide
    exact mul_le_mul_of_nonneg_left (zpow_le_zpow_right₀ one_le_two hexp) (by linarith)

end Sys2Proof.Machine
end

section
/-! PROOFS. NaNs, infinities and zeros as operands (47_fp_arith.md R232, R234, R236): what each operation gives on values of
each kind, and the kinds of the bit patterns. -/

namespace Sys2Proof.Machine

/-! ### The kinds of bit patterns -/

/-- A bit pattern is a NaN, an infinity or a finite number, the last two with its sign bit. -/
theorem unpack_kinds (fmt : FpFormat) (w : DWord) : (∃ s, unpack fmt w = .nan s) ∨ unpack fmt w = .inf (signField fmt w) ∨
    ∃ m e, unpack fmt w = .fin (signField fmt w) m e := by
  by_cases hexp : expField fmt w = expOnes fmt
  · by_cases hfrac : fracField fmt w = 0
    · exact .inr (.inl (by simp [unpack, hexp, hfrac]))
    · exact .inl ⟨_, by simp only [unpack, hexp, hfrac, if_true, if_false]; rfl⟩
  · by_cases hzero : expField fmt w = 0
    · exact .inr (.inr ⟨fracField fmt w, minQuantum fmt, by simp only [unpack, if_neg hexp, if_pos hzero]⟩)
    · exact .inr (.inr ⟨_, _, by simp only [unpack, if_neg hexp, if_neg hzero]; rfl⟩)

section Kinds
variable {fmt : FpFormat} {w : DWord}

theorem valueOf_of_fin {n : Bool} {m : ℕ} {e : ℤ} (h : unpack fmt w = .fin n m e) :
    valueOf fmt w = some (finiteValue n m e) := by
  simp only [valueOf, h]

theorem unpack_of_zero (h : valueOf fmt w = some 0) : ∃ e, unpack fmt w = .fin (signField fmt w) 0 e := by
  obtain ⟨m, e, hw, hzero, -⟩ := unpack_of_valueOf h
  obtain rfl : m = 0 := finiteValue_eq_zero_iff.1 hzero.symm
  exact ⟨e, hw⟩

theorem unpack_of_ne_zero {x : ℚ} (h : valueOf fmt w = some x) (hx : x ≠ 0) :
    ∃ m e, unpack fmt w = .fin (signField fmt w) m e ∧ m ≠ 0 := by
  obtain ⟨m, e, hw, rfl, -⟩ := unpack_of_valueOf h
  exact ⟨m, e, hw, fun hm => hx (finiteValue_eq_zero_iff.2 hm)⟩

/-- A bit pattern with a value is finite. -/
theorem unpack_of_valueOf_ne_none (h : valueOf fmt w ≠ none) : ∃ m e, unpack fmt w = .fin (signField fmt w) m e := by
  obtain ⟨x, hx⟩ := Option.ne_none_iff_exists'.1 h
  obtain ⟨m, e, hw, -⟩ := unpack_of_valueOf hx
  exact ⟨m, e, hw⟩

/-- A bit pattern that is no NaN and no zero is an infinity or a finite number other than 0. -/
theorem unpack_of_nonzero (hnan : (unpack fmt w).isNan = false) (hzero : valueOf fmt w ≠ some 0) :
    unpack fmt w = .inf (signField fmt w) ∨ ∃ m e, unpack fmt w = .fin (signField fmt w) m e ∧ m ≠ 0 := by
  rcases unpack_kinds fmt w with ⟨s, hw⟩ | hw | ⟨m, e, hw⟩
  · rw [hw] at hnan
    cases hnan
  · exact .inl hw
  · refine .inr ⟨m, e, hw, fun hm => hzero ?_⟩
    rw [valueOf_of_fin hw, finiteValue_eq_zero_iff.2 hm]

end Kinds

/-! ### NaN operands -/

theorem nanResult_eq (s : Bool) : nanResult s = ⟨.quietNan, if s = true then excV else 0⟩ := rfl

theorem nanResult_or (s t : Bool) : nanResult (s || t) = ⟨.quietNan, if s = true ∨ t = true then excV else 0⟩ := by
  simp only [nanResult_eq, Bool.or_eq_true]

@[simp] theorem isNan_negated (v : FpValue) : v.negated.isNan = v.isNan := by cases v <;> rfl
@[simp] theorem isSignaling_negated (v : FpValue) : v.negated.isSignaling = v.isSignaling := by cases v <;> rfl

theorem addValues_nan (fmt : FpFormat) (env : FpEnv) {va vb : FpValue} (h : va.isNan ∨ vb.isNan) :
    addValues fmt env va vb = nanResult (va.isSignaling || vb.isSignaling) := by
  cases va with
  | nan s => cases vb <;> simp [addValues, FpValue.isSignaling]
  | inf | fin => cases vb <;> simp_all [addValues, FpValue.isSignaling, FpValue.isNan]

theorem divValues_nan (fmt : FpFormat) (env : FpEnv) {va vb : FpValue} (h : va.isNan ∨ vb.isNan) :
    divValues fmt env va vb = nanResult (va.isSignaling || vb.isSignaling) := by
  cases va with
  | nan s => cases vb <;> simp [divValues, FpValue.isSignaling]
  | inf | fin => cases vb <;> simp_all [divValues, FpValue.isSignaling, FpValue.isNan]

theorem fpMul_nan (fmt : FpFormat) (env : FpEnv) {a b : DWord} (h : (unpack fmt a).isNan ∨ (unpack fmt b).isNan) :
    fpMul fmt env a b = nanResult ((unpack fmt a).isSignaling || (unpack fmt b).isSignaling) :=
  if_pos (by simpa using h)

/-- Only values that are not NaNs have a product, which is not one either. -/
theorem not_isNan_of_exactProduct {va vb p : FpValue} (h : exactProduct va vb = some p) :
    va.isNan = false ∧ vb.isNan = false ∧ p.isNan = false := by
  cases va with
  | nan => cases vb <;> cases h
  | inf na =>
    cases vb with
    | nan => cases h
    | inf nb => cases h; exact ⟨rfl, rfl, rfl⟩
    | fin nb mb eb =>
      obtain ⟨-, hp⟩ := Option.ite_none_left_eq_some.1 h
      cases hp; exact ⟨rfl, rfl, rfl⟩
  | fin na ma ea =>
    cases vb with
    | nan => cases h
    | inf nb =>
      obtain ⟨-, hp⟩ := Option.ite_none_left_eq_some.1 h
      cases hp; exact ⟨rfl, rfl, rfl⟩
    | fin nb mb eb => cases h; exact ⟨rfl, rfl, rfl⟩

/-- A value that is not a NaN does not signal. -/
theorem isSignaling_of_not_isNan {v : FpValue} (h : v.isNan = false) : v.isSignaling = false := by
  cases v with
  | nan => cases h
  | inf | fin => rfl

section Fma
variable {fmt : FpFormat} {env : FpEnv} (op : FpOp) (neg : Bool) {a b : DWord} (c : DWord)

/-- The addend as the operation sees it (R237). -/
def addendValue (fmt : FpFormat) (neg : Bool) (c : DWord) : FpValue :=
  if neg then (unpack fmt c).negated else unpack fmt c

theorem isNan_addendValue : (addendValue fmt neg c).isNan = (unpack fmt c).isNan := by
  cases neg
  · rfl
  · exact isNan_negated _

theorem isSignaling_addendValue : (addendValue fmt neg c).isSignaling = (unpack fmt c).isSignaling := by
  cases neg
  · rfl
  · exact isSignaling_negated _

theorem addendValue_inf {k : Bool} (h : unpack fmt c = .inf k) : addendValue fmt neg c = .inf (k != neg) := by
  rw [addendValue, h]
  cases neg <;> cases k <;> rfl

theorem addendValue_fin {k : Bool} {m : ℕ} {e : ℤ} (h : unpack fmt c = .fin k m e) :
    addendValue fmt neg c = .fin (k != neg) m e := by
  rw [addendValue, h]
  cases neg <;> cases k <;> rfl

/-- A fused operation with a product is the sum of the product and the addend. -/
theorem fpFma_of_product {p : FpValue} (h : exactProduct (unpack fmt a) (unpack fmt b) = some p) :
    fpFma op fmt env neg a b c = addValues fmt env p (addendValue fmt neg c) := by
  obtain ⟨ha, hb, -⟩ := not_isNan_of_exactProduct h
  simp only [fpFma, ha, hb, h, Bool.or_self, Bool.false_eq_true, if_false, addendValue]

theorem fpFma_of_factor_nan (h : (unpack fmt a).isNan ∨ (unpack fmt b).isNan) :
    fpFma op fmt env neg a b c =
      nanResult ((unpack fmt a).isSignaling || (unpack fmt b).isSignaling || (unpack fmt c).isSignaling) := by
  rw [← isSignaling_addendValue neg c]
  exact if_pos (by simpa using h)

/-- The fused operation of 0 * inf (R236, log 12). -/
theorem fpFma_of_no_product (ha : (unpack fmt a).isNan = false) (hb : (unpack fmt b).isNan = false)
    (h : exactProduct (unpack fmt a) (unpack fmt b) = none) : fpFma op fmt env neg a b c =
      if (unpack fmt c).isNan then
        nanResult ((unpack fmt c).isSignaling || Config.zeroTimesInfPlusNanRaisesV op fmt a b c)
      else invalidOperation := by
  rw [← isNan_addendValue neg c, ← isSignaling_addendValue neg c]
  simp only [fpFma, ha, hb, h, Bool.or_self, Bool.false_eq_true, if_false, addendValue]
  rfl

/-- A NaN operand of a fused operation: which exception it raises is open only for 0 * inf with a quiet NaN (R236, log 12). -/
theorem fpFma_nan (h : (unpack fmt a).isNan ∨ (unpack fmt b).isNan ∨ (unpack fmt c).isNan) :
    ∃ s, fpFma op fmt env neg a b c = nanResult s ∧
      ((unpack fmt a).isSignaling ∨ (unpack fmt b).isSignaling ∨ (unpack fmt c).isSignaling → s = true) ∧
      (¬((unpack fmt a).isSignaling ∨ (unpack fmt b).isSignaling ∨ (unpack fmt c).isSignaling) →
        (unpack fmt a).isNan ∨ (unpack fmt b).isNan ∨ exactProduct (unpack fmt a) (unpack fmt b) ≠ none → s = false) := by
  by_cases hfactor : (unpack fmt a).isNan ∨ (unpack fmt b).isNan
  · refine ⟨_, fpFma_of_factor_nan op neg c hfactor, fun hs => by simpa [or_assoc] using hs, fun hs _ => ?_⟩
    simpa [not_or, and_assoc] using hs
  · have hc : (unpack fmt c).isNan = true := by tauto
    obtain ⟨ha, hb⟩ : (unpack fmt a).isNan = false ∧ (unpack fmt b).isNan = false := by simpa using hfactor
    have ha' := isSignaling_of_not_isNan ha
    have hb' := isSignaling_of_not_isNan hb
    cases hp : exactProduct (unpack fmt a) (unpack fmt b) with
    | none =>
      refine ⟨_, (fpFma_of_no_product op neg c ha hb hp).trans (if_pos hc), fun hs => ?_, fun _ hs => ?_⟩
      · simp_all
      · simp_all
    | some p =>
      obtain ⟨-, -, hpn⟩ := not_isNan_of_exactProduct hp
      have hp' := isSignaling_of_not_isNan hpn
      refine ⟨_, (fpFma_of_product op neg c hp).trans (addValues_nan fmt env (.inr ?_)), fun hs => ?_, fun hs _ => ?_⟩
      · rwa [isNan_addendValue]
      · simpa [isSignaling_addendValue, ha', hb', hp'] using hs
      · simpa [isSignaling_addendValue, ha', hb', hp'] using hs

end Fma

/-! ### Infinities -/

section Infinite
variable {fmt : FpFormat} (env : FpEnv) {a b c : DWord} {n k : Bool} {m : ℕ} {e : ℤ}

theorem addValues_inf_same : addValues fmt env (.inf n) (.inf n) = infResult fmt n := if_pos rfl
theorem addValues_inf_opposite (h : n ≠ k) : addValues fmt env (.inf n) (.inf k) = invalidOperation := if_neg h

/-- The product of an infinity and a number other than 0. -/
theorem exactProduct_inf_fin (hm : m ≠ 0) : exactProduct (.inf n) (.fin k m e) = some (.inf (n != k)) := if_neg hm
theorem exactProduct_fin_inf (hm : m ≠ 0) : exactProduct (.fin k m e) (.inf n) = some (.inf (k != n)) := if_neg hm

theorem fpMul_of_product {p : FpValue} (h : exactProduct (unpack fmt a) (unpack fmt b) = some p) :
    fpMul fmt env a b = roundedValue fmt env p := by
  obtain ⟨ha, hb, -⟩ := not_isNan_of_exactProduct h
  simp only [fpMul, ha, hb, h, Bool.or_self, Bool.false_eq_true, if_false]

theorem fpMul_of_no_product (ha : (unpack fmt a).isNan = false) (hb : (unpack fmt b).isNan = false)
    (h : exactProduct (unpack fmt a) (unpack fmt b) = none) : fpMul fmt env a b = invalidOperation := by
  simp only [fpMul, ha, hb, h, Bool.or_self, Bool.false_eq_true, if_false]

end Infinite

/-- Settles O54: the NaN rules of each operation, then each invalid operation by the kinds of its operands. -/
theorem nanAndInvalidResults : Obligations.NanAndInvalidResults := by
  rintro fmt env op neg a b c _ _ _ rfl rfl rfl
  refine ⟨fun h => ?_, fun h => ?_, fun h => ?_, fun n m ha hb => ⟨fun hne => ?_, fun heq => ?_, ?_⟩, fun n ha hb => ?_,
    fun p k hp hc hne => ?_, fun ha hb => ?_, fun x ha hx => ?_, fun ha => ?_⟩
  · simp only [List.forall_mem_cons, ← nanResult_or]
    refine ⟨addValues_nan fmt env h, ?_, fpMul_nan fmt env h, divValues_nan fmt env h, fun o ho => nomatch ho⟩
    rw [fpSub, addValues_nan fmt env (by rwa [isNan_negated]), isSignaling_negated]
  · obtain ⟨s, hs, hsignaling, hquiet⟩ := fpFma_nan (env := env) op neg c h
    rw [hs, nanResult_eq]
    exact ⟨rfl, fun h => if_pos (hsignaling h), fun h h' => if_neg (by simp [hquiet h h'])⟩
  · obtain ⟨s, hs⟩ : ∃ s, unpack fmt a = .nan s := by
      rcases unpack_kinds fmt a with hw | hw | ⟨m, e, hw⟩
      · exact hw
      · rw [hw] at h; cases h
      · rw [hw] at h; cases h
    simp only [fpSqrt, fpConvert, hs]
    exact ⟨rfl, fun _ => rfl⟩
  · rw [fpAdd, ha, hb, addValues_inf_opposite env hne]
  · rw [fpSub, ha, hb, heq]
    exact addValues_inf_opposite env (by simp)
  · rw [fpDiv, ha, hb]
    rfl
  · obtain ⟨e, hb⟩ := unpack_of_zero hb
    have hab : exactProduct (unpack fmt a) (unpack fmt b) = none := by rw [ha, hb]; rfl
    have hba : exactProduct (unpack fmt b) (unpack fmt a) = none := by rw [ha, hb]; rfl
    have han : (unpack fmt a).isNan = false := by rw [ha]; rfl
    have hbn : (unpack fmt b).isNan = false := by rw [hb]; rfl
    refine ⟨fpMul_of_no_product env han hbn hab, fpMul_of_no_product env hbn han hba, fun hc => ⟨?_, ?_⟩⟩
    · rw [fpFma_of_no_product op neg c han hbn hab, hc, if_neg Bool.false_ne_true]
    · rw [fpFma_of_no_product op neg c hbn han hba, hc, if_neg Bool.false_ne_true]
  · rw [fpFma_of_product op neg c hp, addendValue_inf neg c hc, addValues_inf_opposite env hne]
  · obtain ⟨ea, ha⟩ := unpack_of_zero ha
    obtain ⟨eb, hb⟩ := unpack_of_zero hb
    rw [fpDiv, ha, hb]
    rfl
  · obtain ⟨m, e, hw, rfl, -⟩ := unpack_of_valueOf ha
    have hm : m ≠ 0 := fun hm => hx.ne (finiteValue_eq_zero_iff.2 hm)
    have hneg : signField fmt a = true := by
      by_contra hpos
      rw [Bool.not_eq_true] at hpos
      have : (0 : ℚ) ≤ m * 2 ^ e := by positivity
      rw [hpos, finiteValue_eq, signOf_false] at hx
      linarith
    simp only [fpSqrt, hw, if_neg hm, hneg, if_true]
  · simp only [fpSqrt, ha]

/-! ### Infinite and zero results -/

theorem infResult_unpack (fmt : FpFormat) (n : Bool) : ∃ w, infResult fmt n = ⟨.bits w, 0⟩ ∧ unpack fmt w = .inf n :=
  ⟨_, rfl, unpack_packBits_inf fmt n⟩

theorem zeroResult_valueOf (fmt : FpFormat) (n : Bool) :
    ∃ w, zeroResult fmt n = ⟨.bits w, 0⟩ ∧ valueOf fmt w = some 0 ∧ signField fmt w = n :=
  ⟨_, rfl, by rw [valueOf_packBits n (infMagnitude_pos fmt), gridValue_zero, mul_zero], signField_packBits n (by positivity)⟩

/-- The product of an infinity and anything but a NaN or a zero is an infinity with the exclusive or of the signs. -/
theorem exactProduct_infinite {fmt : FpFormat} {a b : DWord} {n : Bool} (hinf : unpack fmt a = .inf n ∨ unpack fmt b = .inf n)
    (h : ∀ u ∈ [a, b], (unpack fmt u).isNan = false ∧ valueOf fmt u ≠ some 0) :
    exactProduct (unpack fmt a) (unpack fmt b) = some (.inf (signField fmt a != signField fmt b)) := by
  obtain ⟨hanan, hazero⟩ := h a (by simp)
  obtain ⟨hbnan, hbzero⟩ := h b (by simp)
  rcases unpack_of_nonzero hanan hazero with ha | ⟨ma, ea, ha, hma⟩ <;>
    rcases unpack_of_nonzero hbnan hbzero with hb | ⟨mb, eb, hb, hmb⟩ <;> rw [ha, hb] at hinf ⊢
  · rfl
  · exact exactProduct_inf_fin hmb
  · exact exactProduct_fin_inf hma
  · rcases hinf with h | h <;> cases h

/-- Settles O55: each operation by the kinds of its operands. -/
theorem infinityAndZeroResults : Obligations.InfinityAndZeroResults := by
  intro fmt env a b x
  refine ⟨fun n ha hb => ?_, fun n m ha hb => ⟨fun h => ?_, fun h => ?_, ?_⟩, fun ha hx hb => ?_,
    fun op neg c n hinf hab hc => ?_, fun op neg c n ha hb hc => ?_, fun ha => ?_, fun ha => fpSqrt_of_zero env ha,
    fun dst n ha => ?_, fun dst ha => ?_, fun n => ⟨infResult_unpack fmt n, zeroResult_valueOf fmt n⟩⟩
  · obtain ⟨m, e, hb', hval, -⟩ := unpack_of_valueOf hb
    simp only [fpAdd, fpSub, fpDiv, ha, hb']
    refine ⟨rfl, rfl, rfl, rfl, rfl, rfl, fun hx => ?_⟩
    have hm : m ≠ 0 := fun hm => hx (hval.trans (finiteValue_eq_zero_iff.2 hm))
    rw [fpMul_of_product env (by rw [ha, hb']; exact exactProduct_inf_fin hm),
      fpMul_of_product env (by rw [ha, hb']; exact exactProduct_fin_inf hm), bne_comm (a := signField fmt b)]
    exact ⟨rfl, rfl⟩
  · rw [fpAdd, ha, hb, h]
    exact addValues_inf_same env
  · obtain rfl : m = !n := by cases n <;> cases m <;> simp_all
    rw [fpSub, ha, hb, FpValue.negated, Bool.not_not]
    exact addValues_inf_same env
  · exact fpMul_of_product env (p := .inf (n != m)) (by rw [ha, hb]; rfl)
  · obtain ⟨m, e, ha, hm⟩ := unpack_of_ne_zero ha hx
    obtain ⟨e', hb⟩ := unpack_of_zero hb
    rw [fpDiv, ha, hb]
    simp [divValues, hm]
  · rw [fpFma_of_product op neg c (exactProduct_infinite hinf hab)]
    rcases hc with hc | hc
    · obtain ⟨m, e, hc⟩ := unpack_of_valueOf_ne_none hc
      rw [addendValue_fin neg c hc]
      rfl
    · rw [addendValue_inf neg c hc, Bool.bne_assoc, bne_self_eq_false, Bool.bne_false]
      exact addValues_inf_same env
  · obtain ⟨ma, ea, ha⟩ := unpack_of_valueOf_ne_none ha
    obtain ⟨mb, eb, hb⟩ := unpack_of_valueOf_ne_none hb
    rw [fpFma_of_product op neg c (by rw [ha, hb]; rfl), addendValue_inf neg c hc]
    rfl
  · simp only [fpSqrt, ha]
  · simp only [fpConvert, ha]
    rfl
  · obtain ⟨e, ha⟩ := unpack_of_zero ha
    simp only [fpConvert, ha]
    rfl

end Sys2Proof.Machine
end

section
/-! PROOFS. Maximum, minimum and class (47_fp_arith.md sections 4 and 7): a comparison read from the other side, the operand it
picks, and the class of a value by its sign and its place below or above the smallest normal number. -/

namespace Sys2Proof.Machine

open Sys2Proof.Laws.DecodeEncode (decodeOfEncode)

/-! ### Comparisons from both sides (R290) -/

/-- The relation with the operands exchanged. -/
def Relation.swap : Relation → Relation
  | .lt => .gt
  | .gt => .lt
  | .eq => .eq
  | .un => .un

theorem compareInts_swap (a b : ℤ) : compareInts b a = (compareInts a b).swap := by
  unfold compareInts
  split
  · next h => simp [h.not_gt, Relation.swap]
  · split <;> rfl

theorem compareValues_swap (a b : FpValue) : compareValues b a = (compareValues a b).swap := by
  cases a with
  | nan => cases b <;> rfl
  | inf na =>
    cases b with
    | nan => rfl
    | inf nb => cases na <;> cases nb <;> rfl
    | fin nb => cases na <;> rfl
  | fin na ma ea =>
    cases b with
    | nan => rfl
    | inf nb => cases nb <;> rfl
    | fin nb mb eb =>
      simp only [compareValues, min_comm eb ea]
      exact compareInts_swap _ _

/-- The relation by which an operand is picked: by magnitude where that tells them apart (R236). -/
def pickRelation (byMagnitude : Bool) (a b : FpValue) : Relation :=
  if byMagnitude then
    match compareValues a.magnitude b.magnitude with
    | .eq => compareValues a b
    | r => r
  else compareValues a b

theorem pickRelation_swap (byMagnitude : Bool) (a b : FpValue) :
    pickRelation byMagnitude b a = (pickRelation byMagnitude a b).swap := by
  unfold pickRelation
  rw [compareValues_swap a b, compareValues_swap a.magnitude b.magnitude]
  cases byMagnitude
  · rfl
  · cases compareValues a.magnitude b.magnitude <;> rfl

/-- Without NaNs the maximum or minimum is the operand that the relation picks. -/
theorem fpMaxMin_eq (op : FpOp) (fmt : FpFormat) (smaller byMagnitude : Bool) {a b : DWord}
    (ha : (unpack fmt a).isNan = false) (hb : (unpack fmt b).isNan = false) :
    fpMaxMin op fmt smaller byMagnitude a b =
      ⟨.bits (pickOperand op fmt smaller a b (pickRelation byMagnitude (unpack fmt a) (unpack fmt b))), 0⟩ := by
  simp only [fpMaxMin, isSignaling_of_not_isNan ha, isSignaling_of_not_isNan hb, ha, hb, Bool.or_self, Bool.false_eq_true,
    if_false]
  rfl

/-- The operand picked is one of the two, and the relation of it to the other is not the worse one. -/
theorem pickOperand_cases (op : FpOp) (fmt : FpFormat) (smaller : Bool) (a b : DWord) (rel : Relation) {worse : Relation}
    (hworse : worse = if smaller then .gt else .lt) :
    (pickOperand op fmt smaller a b rel = a ∧ rel ≠ worse) ∨ (pickOperand op fmt smaller a b rel = b ∧ rel.swap ≠ worse) := by
  subst hworse
  have heq : equalOperand op fmt a b = a ∨ equalOperand op fmt a b = b := ite_eq_or_eq _ _ _
  cases rel with
  | lt => cases smaller <;> simp [pickOperand, Relation.swap]
  | gt => cases smaller <;> simp [pickOperand, Relation.swap]
  | eq => cases smaller <;> simpa [pickOperand, Relation.swap] using heq
  | un => cases smaller <;> simpa [pickOperand, Relation.swap] using heq

/-- What the relation of the picked operand to the other says of their values and magnitudes. -/
theorem pickRelation_ne {byMagnitude smaller : Bool} {a b : FpValue} {worse : Relation}
    (hworse : worse = if smaller then .gt else .lt) (h : pickRelation byMagnitude a b ≠ worse) :
    (byMagnitude = false → compareValues a b ≠ worse) ∧
      (byMagnitude = true → compareValues a.magnitude b.magnitude ≠ worse ∧
        (compareValues a.magnitude b.magnitude = .eq → compareValues a b ≠ worse)) := by
  have hne : Relation.eq ≠ worse := by
    rw [hworse]
    cases smaller <;> decide
  refine ⟨?_, ?_⟩
  · rintro rfl
    exact h
  · rintro rfl
    rw [pickRelation, if_pos rfl] at h
    cases hmag : compareValues a.magnitude b.magnitude with
    | eq => rw [hmag] at h; exact ⟨hne, fun _ => h⟩
    | lt => rw [hmag] at h; exact ⟨h, nofun⟩
    | gt => rw [hmag] at h; exact ⟨h, nofun⟩
    | un => rw [hmag] at h; exact ⟨h, nofun⟩

/-- Settles O57: the NaN rules by the branches of `fpMaxMin`, the others by the operand picked. -/
theorem maxMinRules : Obligations.MaxMinRules := by
  rintro fmt op smaller byMagnitude a b _ _ _ rfl rfl rfl
  refine ⟨fun h => ?_, fun ha hb => ?_, fun ha hb => ?_, fun ha hb => ?_, fun ha hb => ?_⟩
  · exact if_pos (by simpa using h)
  · simp only [fpMaxMin, ha, hb]
    rfl
  · simp only [fpMaxMin, ha, hb, isSignaling_of_not_isNan hb]
    rfl
  · simp only [fpMaxMin, ha, hb, isSignaling_of_not_isNan ha]
    rfl
  · rw [fpMaxMin_eq op fmt smaller byMagnitude ha hb]
    rcases pickOperand_cases op fmt smaller a b (pickRelation byMagnitude (unpack fmt a) (unpack fmt b)) rfl with
      ⟨hr, hrel⟩ | ⟨hr, hrel⟩
    · refine ⟨rfl, a, b, by rw [hr], .inl ⟨rfl, rfl⟩, fun worse hworse => pickRelation_ne hworse ?_⟩
      rwa [hworse]
    · refine ⟨rfl, b, a, by rw [hr], .inr ⟨rfl, rfl⟩, fun worse hworse => pickRelation_ne hworse ?_⟩
      rwa [hworse, pickRelation_swap]

/-! ### Classes (R276, log 15) -/

theorem minNormal_pos (fmt : FpFormat) : 0 < minNormal fmt := by
  rw [minNormal]
  positivity

/-- The number of the bit that is set in the class. -/
def classBit (fmt : FpFormat) : FpValue → Nat
  | .nan signaling => if signaling then 0 else 1
  | .inf neg => if neg then 2 else 6
  | .fin neg m _ =>
    if m = 0 then (if neg then 5 else 9)
    else if m < 2 ^ (layout fmt).fracBits then (if neg then 4 else 8)
    else (if neg then 3 else 7)

theorem fpClass_eq (fmt : FpFormat) (w : DWord) : fpClass fmt w = BitVec.ofNat 10 (2 ^ classBit fmt (unpack fmt w)) := by
  unfold fpClass
  cases unpack fmt w with
  | nan signaling => cases signaling <;> rfl
  | inf neg => cases neg <;> rfl
  | fin neg m e =>
    simp only [classBit]
    split
    · cases neg <;> rfl
    · split <;> cases neg <;> rfl

/-- A finite value of a pattern by its magnitude: it is 0 or below the smallest normal number where its integer is. -/
theorem magnitude_of_valueOf {fmt : FpFormat} {w : DWord} {x : ℚ} (h : valueOf fmt w = some x) :
    ∃ m e, unpack fmt w = .fin (signField fmt w) m e ∧ ∃ g : ℚ, 0 ≤ g ∧ x = signOf (signField fmt w) * g ∧ (m = 0 ↔ g = 0) ∧
      (m < 2 ^ (layout fmt).fracBits ↔ g < minNormal fmt) := by
  obtain ⟨hk, rfl⟩ := valueOf_eq_some h
  obtain ⟨m, e, hw, hm, -, -, -, hlt⟩ := unpack_of_magnitude_lt hk
  refine ⟨m, e, hw, _, gridValue_nonneg fmt _, rfl, ?_, ?_⟩
  · have hunit : (2 : ℚ) ^ e ≠ 0 := by positivity
    rw [← hm, mul_eq_zero, Nat.cast_eq_zero, or_iff_left hunit]
  · rw [hlt, ← gridValue_minNormal, (gridValue_strictMono fmt).lt_iff_lt]

/-- The bit of the class of a finite value is the place of the value. -/
theorem classBit_of_valueOf {fmt : FpFormat} {w : DWord} {x : ℚ} (h : valueOf fmt w = some x) {k : ℕ}
    (hk : k = classBit fmt (unpack fmt w)) :
    (k = 3 ↔ x ≤ -minNormal fmt) ∧ (k = 4 ↔ -minNormal fmt < x ∧ x < 0) ∧
      (k = 5 ↔ x = 0 ∧ signField fmt w = true) ∧ (k = 9 ↔ x = 0 ∧ signField fmt w = false) ∧
      (k = 8 ↔ 0 < x ∧ x < minNormal fmt) ∧ (k = 7 ↔ minNormal fmt ≤ x) := by
  obtain ⟨m, e, hw, g, hg, rfl, hzero, hlt⟩ := magnitude_of_valueOf h
  have hmin := minNormal_pos fmt
  rw [hw, classBit] at hk
  subst hk
  generalize minNormal fmt = least at *
  by_cases hm : m = 0
  · obtain rfl : g = 0 := hzero.1 hm
    cases signField fmt w <;> simp [hm, hmin, hmin.not_ge]
  · have hgpos : 0 < g := hg.lt_of_ne fun hg0 => hm (hzero.2 hg0.symm)
    by_cases hsub : m < 2 ^ (layout fmt).fracBits
    · have hgl := hlt.1 hsub
      cases signField fmt w <;> simp [hm, hsub] <;> grind
    · have hgl := not_lt.1 (hlt.not.1 hsub)
      cases signField fmt w <;> simp [hm, hsub] <;> grind

/-- Settles O46: the rows by the round trip; the class by the kind of the operand. -/
theorem classifyResults : Obligations.ClassifyResults := by
  refine ⟨row2R_of fun d j => decodeOfEncode (.fclassS d j) rfl, row2R_of fun d j => decodeOfEncode (.fclassD d j) rfl,
    fun fmt w => ⟨classBit fmt (unpack fmt w), ?_, fpClass_eq fmt w, ?_, ?_, fun n hn => by rw [hn, classBit],
      fun x hx => classBit_of_valueOf hx rfl⟩,
    fun s fd fj => ⟨writesFprLow_of rfl (by rw [operandS_eq]), writesFpr_of rfl rfl⟩⟩
  all_goals
    cases unpack fmt w with
    | nan signaling => cases signaling <;> simp [classBit, FpValue.isNan, FpValue.isSignaling]
    | inf neg => cases neg <;> simp [classBit, FpValue.isNan, FpValue.isSignaling]
    | fin neg m e =>
      simp only [classBit, FpValue.isNan, FpValue.isSignaling]
      split_ifs <;> simp

end Sys2Proof.Machine
end

section
/-! PROOFS. Who reads the rounding mode (47_fp_arith.md R231): what ignores all floating-point state ignores RM; the other
shapes write what does not depend on it; and the widening conversions are exact, so that no mode rounds them (48_fp_cmp_cvt.md R296,
R298). -/

namespace Sys2Proof.Machine

/-! ### Exact conversions -/

theorem two_zpow_le_maxFinite {fmt : FpFormat} {t : ℤ} (h : t ≤ topQuantum fmt) : (2 : ℚ) ^ t ≤ maxFinite fmt := by
  have hbits : (2 : ℚ) ≤ 2 ^ ((layout fmt).fracBits + 1) := le_self_pow₀ one_le_two (Nat.succ_ne_zero _)
  exact (zpow_le_zpow_right₀ one_le_two h).trans (le_mul_of_one_le_left (by positivity) (by linarith))

/-- A value of whole units, in range, is the same in every mode. -/
theorem roundFinite_mode {fmt : FpFormat} {env env' : FpEnv} (henv : env'.underflowEnabled = env.underflowEnabled) (neg : Bool)
    {m : ℕ} {e : ℤ} (hm : m ≠ 0) (hunit : resultQuantum fmt m e ≤ e) (hmax : (m : ℚ) * 2 ^ e ≤ maxFinite fmt) :
    roundFinite fmt env' neg m e = roundFinite fmt env neg m e := by
  obtain ⟨J, hJ⟩ : ∃ J : ℕ, resultQuantum fmt m e = minQuantum fmt + J :=
    ⟨(resultQuantum fmt m e - minQuantum fmt).toNat, by rw [resultQuantum]; omega⟩
  have hunit' : m.log2 + e - (layout fmt).fracBits ≤ e := (le_max_left _ _).trans hunit
  have hrange : ∀ env : FpEnv, ¬infMagnitude fmt ≤
      J * 2 ^ (layout fmt).fracBits + (quantize env.mode neg m e (resultQuantum fmt m e)).1 := by
    intro env hinf
    have hexc := (correctlyRounded_finiteValue fmt env neg m e hm).excO_iff
    rw [roundFinite_eq fmt env neg m e hJ rfl rfl, if_pos hinf] at hexc
    refine not_overflows_of_le env.mode ?_ (hexc.1 overflow_exc)
    rw [← Rat.cast_abs, Rat.cast_le, finiteValue_eq]
    have hpos : (0 : ℚ) ≤ m * 2 ^ e := by positivity
    cases neg <;> simpa [abs_of_nonneg hpos] using hmax
  have h := hrange env
  have h' := hrange env'
  rw [roundFinite_eq fmt env neg m e hJ rfl rfl, roundFinite_eq fmt env' neg m e hJ rfl rfl, if_neg h, if_neg h', henv]
  simp only [quantize_of_le _ _ _ hunit, quantize_of_le _ _ _ hunit']

theorem roundValue_mode {env env' : FpEnv} (henv : env'.underflowEnabled = env.underflowEnabled) (neg : Bool) {m : ℕ} {e : ℤ}
    (hm : m < 2 ^ 53) (he : -1074 ≤ e) (he' : e ≤ 104) :
    roundValue .double env' neg m e = roundValue .double env neg m e := by
  rw [roundValue, roundValue]
  split
  · rfl
  · next hne =>
    have hlog : m.log2 < 53 := (Nat.log2_lt hne).2 hm
    refine roundFinite_mode henv neg hne (max_le ?_ ?_) ?_
    · have : (layout .double).fracBits = 52 := rfl
      omega
    · exact he
    · have hm' : (m : ℚ) ≤ 2 ^ (53 : ℤ) := by exact_mod_cast hm.le
      calc (m : ℚ) * 2 ^ e ≤ 2 ^ (53 : ℤ) * 2 ^ (104 : ℤ) :=
            mul_le_mul hm' (zpow_le_zpow_right₀ one_le_two he') (by positivity) (by positivity)
        _ = 2 ^ (157 : ℤ) := by rw [← zpow_add₀ two_ne_zero]; rfl
        _ ≤ maxFinite .double := two_zpow_le_maxFinite (by decide)

/-- FCVT.D.S is exact: no mode rounds it (R296). -/
theorem fpConvert_widening_mode {env env' : FpEnv} (henv : env'.underflowEnabled = env.underflowEnabled) (a : DWord) :
    fpConvert .double .single env' a = fpConvert .double .single env a := by
  rw [fpConvert, fpConvert]
  rcases unpack_kinds .single a with ⟨s, ha⟩ | ha | ⟨m, e, ha⟩
  · rw [ha]; rfl
  · rw [ha]; rfl
  · obtain ⟨m', e', ha', -, hm, he, he'⟩ := unpack_of_valueOf (valueOf_of_fin ha)
    rw [ha']
    have hmin : minQuantum .single = -149 := by decide
    have htop : topQuantum .single = 104 := by decide
    exact roundValue_mode henv _ (hm.trans (by decide)) (by omega) (by omega)

/-- FFINT.D.W is exact: no mode rounds it (R298). -/
theorem fpFromInt_double_mode {env env' : FpEnv} (henv : env'.underflowEnabled = env.underflowEnabled) (w : Word) :
    fpFromInt .double env' w.toInt = fpFromInt .double env w.toInt := by
  have hlo := BitVec.le_toInt w
  have hhi := BitVec.toInt_lt (x := w)
  exact roundValue_mode henv _ (by omega) (by decide) (by decide)

/-! ### Shapes in another rounding mode -/

section Rounding
variable (rm : BitVec 2) (s : State)

/-- fcsr0 with another rounding mode. -/
def roundingReplaced (rm : BitVec 2) (fcsr0 : Word) : Word := (fcsr0 &&& 0xFFFFFCFF#32) ||| (rm.setWidth 32 <<< 8)

theorem onState_onState (g h : State → State) (o : Out) : onState g (onState h o) = onState (g ∘ h) o := by
  cases o with
  | next t => rfl
  | fault f => cases f <;> rfl
  | refused r => rfl

/-- What ignores and keeps all floating-point state ignores and keeps RM. -/
theorem withRounding_of_floatBlind {g : State → Out}
    (h : ∀ f fcc fcsr0, g (withFloatState f fcc fcsr0 s) = onState (withFloatState f fcc fcsr0) (g s)) :
    g (withRounding rm s) = onState (withRounding rm) (g s) := by
  have hkept : g s = onState (withFloatState s.f s.fcc s.fcsr0) (g s) := h s.f s.fcc s.fcsr0
  have hrounding : g (withRounding rm s) = onState (withFloatState s.f s.fcc (roundingReplaced rm s.fcsr0)) (g s) :=
    h s.f s.fcc (roundingReplaced rm s.fcsr0)
  rw [hrounding, hkept, onState_onState, onState_onState]
  rfl

theorem gprResult_withRounding (rd : RegNo) (v : Word) :
    gprResult rd v (withRounding rm s) = onState (withRounding rm) (gprResult rd v s) :=
  withRounding_of_floatBlind rm s fun f fcc fcsr0 => gprResult_withFloatState f fcc fcsr0 s rd v

theorem branchIf_withRounding (taken : Bool) (offset : Word) :
    branchIf taken offset (withRounding rm s) = onState (withRounding rm) (branchIf taken offset s) :=
  withRounding_of_floatBlind rm s fun f fcc fcsr0 => branchIf_withFloatState f fcc fcsr0 s taken offset

theorem storeAccess_withRounding (n : Nat) (a : Word) (v : Nat) :
    storeAccess n a v (withRounding rm s) = onState (withRounding rm) (storeAccess n a v s) :=
  withRounding_of_floatBlind rm s fun f fcc fcsr0 => storeAccess_withFloatState f fcc fcsr0 s n a v

theorem loadAccess_withRounding (n : Nat) (a : Word) {write : Nat → State → State}
    (hw : ∀ v, write v (withRounding rm s) = withRounding rm (write v s)) :
    loadAccess n a write (withRounding rm s) = onState (withRounding rm) (loadAccess n a write s) := by
  have hread : memRead n a (withRounding rm s) = memRead n a s :=
    memRead_congr (s := s) (t := withRounding rm s) rfl n a
  have hmap : mappedRange n a (withRounding rm s) = mappedRange n a s :=
    mappedRange_congr (s := s) (t := withRounding rm s) rfl n a
  rw [loadAccess, loadAccess, guardAccess, guardAccess, hread, hmap, hw]
  split
  · rfl
  · split <;> rfl

variable {op : FpOp} (fd : FprNo) (a b c : DWord) (out : FpOut)

theorem fpResultS_withRounding (hop : opReadsRounding op .single = false) :
    fpResultS op fd a b c out (withRounding rm s) = onState (withRounding rm) (fpResultS op fd a b c out s) := by
  rw [fpResultS, fpResultS, value_roundingUnread hop out _ (roundingBits s)]
  refine fpFinish_withRounding rm _ ?_ s
  exact fun _ => rfl

theorem fpResultD_withRounding (hop : opReadsRounding op .double = false) :
    fpResultD op fd a b c out (withRounding rm s) = onState (withRounding rm) (fpResultD op fd a b c out s) := by
  rw [fpResultD, fpResultD, value_roundingUnread hop out _ (roundingBits s)]
  refine fpFinish_withRounding rm _ ?_ s
  exact fun _ => rfl

theorem ftint_withRounding (result : Word × FpExc) :
    ftint fd result (withRounding rm s) = onState (withRounding rm) (ftint fd result s) := by
  refine fpFinish_withRounding rm _ ?_ s
  exact fun _ => rfl

theorem fcmp_withRounding (cond : BitVec 5) (cd : CfNo) (va vb : FpValue) :
    fcmp cond cd va vb (withRounding rm s) = onState (withRounding rm) (fcmp cond cd va vb s) := by
  unfold fcmp
  split
  · rfl
  · refine fpFinish_withRounding rm _ ?_ s
    exact fun _ => rfl

/-- RM is not the enable of U. -/
theorem underflowEnabled_withRounding : (fpEnv (withRounding rm s)).underflowEnabled = (fpEnv s).underflowEnabled := by
  simp only [fpEnv, enables_withRounding]

theorem execFcvtDS_withRounding (fd fj : FprNo) :
    execFcvtDS fd fj (withRounding rm s) = onState (withRounding rm) (execFcvtDS fd fj s) := by
  have hout : fpConvert .double .single (fpEnv (withRounding rm s)) (operandS fj s) =
      fpConvert .double .single (fpEnv s) (operandS fj s) :=
    fpConvert_widening_mode (underflowEnabled_withRounding rm s) _
  refine (congrArg (fun o => fpResultD .convertFormat fd (operandS fj s) 0 0 o (withRounding rm s)) hout).trans ?_
  exact fpResultD_withRounding rm s fd _ 0 0 _ rfl

theorem execFfintDW_withRounding (fd fj : FprNo) :
    execFfintDW fd fj (withRounding rm s) = onState (withRounding rm) (execFfintDW fd fj s) := by
  have hout : fpFromInt .double (fpEnv (withRounding rm s)) (readFprLow fj s).toInt =
      fpFromInt .double (fpEnv s) (readFprLow fj s).toInt :=
    fpFromInt_double_mode (underflowEnabled_withRounding rm s) _
  refine (congrArg (fun o => fpResultD .convertFormat fd 0 0 0 o (withRounding rm s)) hout).trans ?_
  exact fpResultD_withRounding rm s fd 0 0 0 _ rfl

end Rounding

/-- Settles O60: the integer instructions ignore all floating-point state; the others by their shapes. -/
theorem roundingModeIgnored : Obligations.RoundingModeIgnored := by
  intro i rm s hi
  by_cases hint : integerOnly i = true
  · exact withRounding_of_floatBlind rm s fun f fcc fcsr0 => integerIgnoresFloatState i f fcc fcsr0 s hint
  have hneither : (readsRounding i || integerOnly i) = false := by rw [hi, Bool.false_or, Bool.eq_false_iff]; exact hint
  cases i with
  | fmaxS | fminS | fmaxaS | fminaS => exact fpResultS_withRounding rm s _ _ _ _ _ rfl
  | fmaxD | fminD | fmaxaD | fminaD => exact fpResultD_withRounding rm s _ _ _ _ _ rfl
  | fcmpS | fcmpD => exact fcmp_withRounding rm s _ _ _ _
  | fcvtDS => exact execFcvtDS_withRounding rm s _ _
  | ffintDW => exact execFfintDW_withRounding rm s _ _
  | ftintrmWS | ftintrmWD | ftintrpWS | ftintrpWD | ftintrzWS | ftintrzWD | ftintrneWS | ftintrneWD =>
    exact ftint_withRounding rm s _ _
  | fabsS | fabsD | fnegS | fnegD | fcopysignS | fcopysignD | fclassS | fclassD | fmovS | fmovD | fsel | movgr2frW | movgr2frhW
  | movfr2cf | movcf2fr | movgr2cf => rfl
  | movfr2grS | movfrh2grS | movcf2gr => exact gprResult_withRounding rm s _ _
  | bceqz | bcnez => exact branchIf_withRounding rm s _ _
  | fldS fd => exact loadAccess_withRounding rm s _ _ (write := fun v => writeFprLow fd (BitVec.ofNat 32 v)) fun _ => rfl
  | fldD fd => exact loadAccess_withRounding rm s _ _ (write := fun v => writeFpr fd (BitVec.ofNat 64 v)) fun _ => rfl
  | fstS | fstD => exact storeAccess_withRounding rm s _ _ _
  | _ => cases hneither

end Sys2Proof.Machine
end

section
/-! PROOFS. Traps and privilege (60_exceptions.md R372, R375, R369): each shape of a meaning raises in the state it was given, but
that R233 has written Cause; and but for the ten privileged instructions no shape reads the privilege level. -/

namespace Sys2Proof.Machine

/-! ### Precise traps (R375) -/

/-- The trapped state is `s`, or the trap is FPE by an enabled exception and Cause alone is written (R369). -/
def PreciseFault (s : State) (f : Fault) : Prop :=
  f.state = s ∨ ∃ exc, f = .fpe exc f.state ∧ exc &&& enables s ≠ 0 ∧ FpTrapped exc s f.state

/-- If the outcome is a trap, it is precise. -/
def TrapsPrecisely (s : State) (o : Out) : Prop := ∀ f, o = .fault f → PreciseFault s f

section Precise
variable {s : State}

theorem trapsPrecisely_next (t : State) : TrapsPrecisely s (.next t) := fun _ h => nomatch h
theorem trapsPrecisely_refused (r : Refusal) : TrapsPrecisely s (.refused r) := fun _ h => nomatch h

theorem trapsPrecisely_raise {trap : State → Fault} (h : (trap s).state = s) : TrapsPrecisely s (raise trap s) := by
  rintro _ ⟨⟩
  exact .inl h

theorem trapsPrecisely_guardAccess (n : Nat) (a : Word) {access : Out} (h : TrapsPrecisely s access) :
    TrapsPrecisely s (guardAccess n a s access) := by
  rcases guardAccess_cases n a s access with ⟨-, hale⟩ | ⟨-, -, hrefused⟩ | ⟨-, -, haccess⟩
  · rw [hale]; exact trapsPrecisely_raise (trap := .ale a) rfl
  · rw [hrefused]; exact trapsPrecisely_refused _
  · rwa [haccess]

theorem trapsPrecisely_privilegedOnly (i : Instr) : TrapsPrecisely s (privilegedOnly i s) := by
  unfold privilegedOnly
  split
  · exact trapsPrecisely_raise rfl
  · exact trapsPrecisely_refused _

theorem trapsPrecisely_divisionResult (rd rk : RegNo) (v : Int) : TrapsPrecisely s (divisionResult rd rk v s) := by
  unfold divisionResult
  split <;> exact trapsPrecisely_next _

/-- The trap of R233 comes before Flags, the destination and the pc are written. -/
theorem trapsPrecisely_fpFinish (exc : FpExc) (write : State → State) : TrapsPrecisely s (fpFinish exc write s) := by
  by_cases henabled : exc &&& enables s = 0
  · rw [fpFinish_next henabled]
    exact trapsPrecisely_next _
  · rw [fpFinish_trap henabled]
    rintro _ ⟨⟩
    exact .inr ⟨exc, rfl, henabled, fpTrapped_setCause exc s⟩

theorem trapsPrecisely_fcmp (cond : BitVec 5) (cd : CfNo) (a b : FpValue) : TrapsPrecisely s (fcmp cond cd a b s) := by
  unfold fcmp
  split
  · exact trapsPrecisely_refused _
  · exact trapsPrecisely_fpFinish _ _

theorem trapsPrecisely_movgr2fcsr (fcsr : BitVec 5) (rj : RegNo) : TrapsPrecisely s (execMovgr2fcsr fcsr rj s) := by
  unfold execMovgr2fcsr
  split
  · exact trapsPrecisely_next _
  · exact trapsPrecisely_refused _

theorem trapsPrecisely_movfcsr2gr (rd : RegNo) (fcsr : BitVec 5) : TrapsPrecisely s (execMovfcsr2gr rd fcsr s) := by
  unfold execMovfcsr2gr
  split
  · exact trapsPrecisely_next _
  · exact trapsPrecisely_refused _

/-- Every instruction traps precisely, by the shape of its meaning. -/
theorem exec_trapsPrecisely (i : Instr) (s : State) : TrapsPrecisely s (exec i s) := by
  cases i with
  | addW | subW | slt | sltu | nor | and | or | xor | slti | sltui | addiW | andi | ori | xori | lu12iW | pcaddu12i | nop
  | mulW | mulhW | mulhWu | sllW | srlW | sraW | slliW | srliW | sraiW | rdcntid | rdcntvlW | rdcntvhW
  | jirl | b | bl | beq | bne | blt | bge | bltu | bgeu | bceqz | bcnez | preld | dbar | ibar
  | fcopysignS | fcopysignD | fabsS | fabsD | fnegS | fnegD | fclassS | fclassD | fmovS | fmovD | fsel
  | movgr2frW | movgr2frhW | movfr2grS | movfrh2grS | movfr2cf | movcf2fr | movgr2cf | movcf2gr =>
    exact trapsPrecisely_next _
  | divW | modW | divWu | modWu => exact trapsPrecisely_divisionResult _ _ _
  | ldB | ldH | ldW | ldBu | ldHu | llW | fldS | fldD | stB | stH | stW | fstS | fstD | scW =>
    exact trapsPrecisely_guardAccess _ _ (trapsPrecisely_next _)
  | brk code => exact trapsPrecisely_raise (trap := .brk code) rfl
  | syscall code => exact trapsPrecisely_raise (trap := .sys code) rfl
  | cacop => exact trapsPrecisely_refused _
  | csrrd | csrwr | csrxchg | tlbsrch | tlbrd | tlbwr | tlbfill | ertn | idle | invtlb =>
    exact trapsPrecisely_privilegedOnly _
  | faddS | fsubS | fmulS | fdivS | fmaxS | fminS | fmaxaS | fminaS | fsqrtS | frecipS | frsqrtS | fmaddS | fmsubS | fnmaddS
  | fnmsubS | fcvtSD | ffintSW | ftintrmWS | ftintrmWD | ftintrpWS | ftintrpWD | ftintrzWS | ftintrzWD | ftintrneWS
  | ftintrneWD | ftintWS | ftintWD | faddD | fsubD | fmulD | fdivD | fmaxD | fminD | fmaxaD | fminaD | fsqrtD | frecipD
  | frsqrtD | fmaddD | fmsubD | fnmaddD | fnmsubD | fcvtDS | ffintDW => exact trapsPrecisely_fpFinish _ _
  | fcmpS | fcmpD => exact trapsPrecisely_fcmp _ _ _ _
  | movgr2fcsr => exact trapsPrecisely_movgr2fcsr _ _
  | movfcsr2gr => exact trapsPrecisely_movfcsr2gr _ _

theorem trapsPrecisely_runWord (w : Word) : TrapsPrecisely s (runWord exec w s) := by
  cases hdec : decode w with
  | ok i => rw [runWord_ok hdec]; exact exec_trapsPrecisely i s
  | undefinedOpcode => rw [runWord_undefined hdec]; exact trapsPrecisely_raise (trap := .ine w) rfl
  | reservedField => rw [runWord_reserved hdec]; exact trapsPrecisely_refused _

/-- A step traps precisely in the state after its boundary, by its stages (20_memory.md R67). -/
theorem step_trapsPrecisely (s : State) : TrapsPrecisely (boundary s) (step s) := by
  rw [step_eq]
  split
  · exact trapsPrecisely_raise (trap := .adef s.pc) rfl
  split
  · exact trapsPrecisely_refused _
  split
  · exact trapsPrecisely_refused _
  · exact trapsPrecisely_runWord _

end Precise

/-- Settles O9: every instruction and the stages of a step trap precisely; the boundary keeps the Enables. -/
theorem trapsArePrecise : Obligations.TrapsArePrecise := by
  refine ⟨exec_trapsPrecisely, fun s f hf => ?_⟩
  have henables : enables (boundary s) = enables s := by rw [enables, boundary_fcsr0, enables]
  rw [← henables]
  exact step_trapsPrecisely s f hf

/-! ### Another privilege level (R372) -/

section Level
variable (p : Plv) (s : State)

theorem writeGpr_withPlv (rd : RegNo) (v : Word) : writeGpr rd v (withPlv p s) = withPlv p (writeGpr rd v s) := by
  unfold writeGpr
  split <;> rfl

theorem gprResult_withPlv (rd : RegNo) (v : Word) :
    gprResult rd v (withPlv p s) = onState (withPlv p) (gprResult rd v s) :=
  congrArg (fun u => Host.Outcome.next (advance u)) (writeGpr_withPlv p s rd v)

theorem gprDraw_withPlv (rd : RegNo) : gprDraw rd (withPlv p s) = onState (withPlv p) (gprDraw rd s) :=
  congrArg (fun u => Host.Outcome.next (advance (drawn u))) (writeGpr_withPlv p s rd (draw s))

theorem divisionResult_withPlv (rd rk : RegNo) (v : Int) :
    divisionResult rd rk v (withPlv p s) = onState (withPlv p) (divisionResult rd rk v s) := by
  have hk : readGpr rk (withPlv p s) = readGpr rk s := rfl
  rw [divisionResult, divisionResult, hk]
  split
  · exact gprDraw_withPlv p s rd
  · exact gprResult_withPlv p s rd _

theorem branchIf_withPlv (taken : Bool) (offset : Word) :
    branchIf taken offset (withPlv p s) = onState (withPlv p) (branchIf taken offset s) := by
  cases taken <;> rfl

theorem linkAndJump_withPlv (r : RegNo) (target : Word) :
    linkAndJump r target (withPlv p s) = onState (withPlv p) (linkAndJump r target s) :=
  congrArg (fun u => Host.Outcome.next (jump target u)) (writeGpr_withPlv p s r (s.pc + 4))

theorem guardAccess_withPlv (n : Nat) (a : Word) {access access' : Out} (h : access' = onState (withPlv p) access) :
    guardAccess n a (withPlv p s) access' = onState (withPlv p) (guardAccess n a s access) := by
  have hmap : mappedRange n a (withPlv p s) = mappedRange n a s := mappedRange_congr (s := s) (t := withPlv p s) rfl n a
  rw [guardAccess, guardAccess, hmap, h]
  split
  · rfl
  · split <;> rfl

theorem loadAccess_withPlv (n : Nat) (a : Word) {write : Nat → State → State}
    (hw : ∀ v, write v (withPlv p s) = withPlv p (write v s)) :
    loadAccess n a write (withPlv p s) = onState (withPlv p) (loadAccess n a write s) := by
  have hread : memRead n a (withPlv p s) = memRead n a s := memRead_congr (s := s) (t := withPlv p s) rfl n a
  refine guardAccess_withPlv p s n a ?_
  rw [hread, hw]
  rfl

theorem loadGpr_withPlv (n : Nat) (a : Word) (rd : RegNo) (value : Nat → Word) :
    loadAccess n a (fun v => writeGpr rd (value v)) (withPlv p s) =
      onState (withPlv p) (loadAccess n a (fun v => writeGpr rd (value v)) s) :=
  loadAccess_withPlv p s n a fun v => writeGpr_withPlv p s rd (value v)

theorem execLlW_withPlv (rd rj : RegNo) (si14 : BitVec 14) :
    execLlW rd rj si14 (withPlv p s) = onState (withPlv p) (execLlW rd rj si14 s) :=
  loadAccess_withPlv p s 4 (vaddr14 rj si14 s) (write := fun v u => setLlbit true (writeGpr rd (BitVec.ofNat 32 v) u))
    fun v => congrArg (setLlbit true) (writeGpr_withPlv p s rd (BitVec.ofNat 32 v))

theorem storeAccess_withPlv (n : Nat) (a : Word) (v : Nat) :
    storeAccess n a v (withPlv p s) = onState (withPlv p) (storeAccess n a v s) :=
  guardAccess_withPlv p s n a rfl

theorem execScW_withPlv (rd rj : RegNo) (si14 : BitVec 14) :
    execScW rd rj si14 (withPlv p s) = onState (withPlv p) (execScW rd rj si14 s) := by
  have hlink : (withPlv p s).llbit = s.llbit := rfl
  have hstore : ∀ a v, memWrite 4 a v (withPlv p s) = withPlv p (memWrite 4 a v s) := fun _ _ => rfl
  refine guardAccess_withPlv p s 4 _ ?_
  rw [hlink, hstore, writeGpr_withPlv, writeGpr_withPlv]
  split <;> rfl

/-- R233 ends alike at another level, if the destination is written alike. -/
theorem fpFinish_withPlv (exc : FpExc) {write : State → State} (hw : ∀ u, write (withPlv p u) = withPlv p (write u)) :
    fpFinish exc write (withPlv p s) = onState (withPlv p) (fpFinish exc write s) := by
  have henables : enables (withPlv p s) = enables s := rfl
  have hstatus : accumulateFlags exc (setCause exc (withPlv p s)) = withPlv p (accumulateFlags exc (setCause exc s)) := rfl
  rw [fpFinish, fpFinish, henables, hstatus, hw]
  split <;> rfl

theorem fpLow_withPlv (exc : FpExc) (fd : FprNo) (v : Word) :
    fpFinish exc (writeFprLow fd v) (withPlv p s) = onState (withPlv p) (fpFinish exc (writeFprLow fd v) s) :=
  fpFinish_withPlv p s exc fun _ => rfl

theorem fpAll_withPlv (exc : FpExc) (fd : FprNo) (v : DWord) :
    fpFinish exc (writeFpr fd v) (withPlv p s) = onState (withPlv p) (fpFinish exc (writeFpr fd v) s) :=
  fpFinish_withPlv p s exc fun _ => rfl

theorem fcmp_withPlv (cond : BitVec 5) (cd : CfNo) (a b : FpValue) :
    fcmp cond cd a b (withPlv p s) = onState (withPlv p) (fcmp cond cd a b s) := by
  unfold fcmp
  split
  · rfl
  · exact fpFinish_withPlv p s _ fun _ => rfl

theorem execMovgr2fcsr_withPlv (fcsr : BitVec 5) (rj : RegNo) :
    execMovgr2fcsr fcsr rj (withPlv p s) = onState (withPlv p) (execMovgr2fcsr fcsr rj s) := by
  unfold execMovgr2fcsr
  split <;> rfl

theorem execMovfcsr2gr_withPlv (rd : RegNo) (fcsr : BitVec 5) :
    execMovfcsr2gr rd fcsr (withPlv p s) = onState (withPlv p) (execMovfcsr2gr rd fcsr s) := by
  unfold execMovfcsr2gr
  split
  · exact gprResult_withPlv p s rd _
  · rfl

/-- An instruction that is not privileged does not read the level, by the shape of its meaning. -/
theorem exec_withPlv {i : Instr} (hi : privileged i = false) :
    exec i (withPlv p s) = onState (withPlv p) (exec i s) := by
  cases i with
  | addW | subW | slt | sltu | nor | and | or | xor | slti | sltui | addiW | andi | ori | xori | lu12iW | pcaddu12i | nop
  | mulW | mulhW | mulhWu | sllW | srlW | sraW | slliW | srliW | sraiW | rdcntid | movfr2grS | movfrh2grS | movcf2gr =>
    exact gprResult_withPlv p s _ _
  | divW | modW | divWu | modWu => exact divisionResult_withPlv p s _ _ _
  | rdcntvlW | rdcntvhW => exact gprDraw_withPlv p s _
  | beq | bne | blt | bge | bltu | bgeu | bceqz | bcnez => exact branchIf_withPlv p s _ _
  | bl | jirl => exact linkAndJump_withPlv p s _ _
  | b | preld | dbar | ibar | brk | syscall | cacop | fcopysignS | fcopysignD | fabsS | fabsD | fnegS | fnegD | fclassS
  | fclassD | fmovS | fmovD | fsel | movgr2frW | movgr2frhW | movfr2cf | movcf2fr | movgr2cf => rfl
  | ldB => exact loadGpr_withPlv p s _ _ _ fun v => (BitVec.ofNat 8 v).signExtend 32
  | ldH => exact loadGpr_withPlv p s _ _ _ fun v => (BitVec.ofNat 16 v).signExtend 32
  | ldW => exact loadGpr_withPlv p s _ _ _ (BitVec.ofNat 32)
  | ldBu => exact loadGpr_withPlv p s _ _ _ fun v => (BitVec.ofNat 8 v).setWidth 32
  | ldHu => exact loadGpr_withPlv p s _ _ _ fun v => (BitVec.ofNat 16 v).setWidth 32
  | fldS fd => exact loadAccess_withPlv p s _ _ (write := fun v => writeFprLow fd (BitVec.ofNat 32 v)) fun _ => rfl
  | fldD fd => exact loadAccess_withPlv p s _ _ (write := fun v => writeFpr fd (BitVec.ofNat 64 v)) fun _ => rfl
  | stB | stH | stW | fstS | fstD => exact storeAccess_withPlv p s _ _ _
  | llW => exact execLlW_withPlv p s _ _ _
  | scW => exact execScW_withPlv p s _ _ _
  | faddS | fsubS | fmulS | fdivS | fmaxS | fminS | fmaxaS | fminaS | fsqrtS | frecipS | frsqrtS | fmaddS | fmsubS | fnmaddS
  | fnmsubS | fcvtSD | ffintSW | ftintrmWS | ftintrmWD | ftintrpWS | ftintrpWD | ftintrzWS | ftintrzWD | ftintrneWS
  | ftintrneWD | ftintWS | ftintWD => exact fpLow_withPlv p s _ _ _
  | faddD | fsubD | fmulD | fdivD | fmaxD | fminD | fmaxaD | fminaD | fsqrtD | frecipD | frsqrtD | fmaddD | fmsubD | fnmaddD
  | fnmsubD | fcvtDS | ffintDW => exact fpAll_withPlv p s _ _ _
  | fcmpS | fcmpD => exact fcmp_withPlv p s _ _ _ _
  | movgr2fcsr => exact execMovgr2fcsr_withPlv p s _ _
  | movfcsr2gr => exact execMovfcsr2gr_withPlv p s _ _
  | csrrd | csrwr | csrxchg | tlbsrch | tlbrd | tlbwr | tlbfill | ertn | idle | invtlb => cases hi

end Level

/-- Settles O16: the ten by `privilegedOnly`, CACOP by its meaning, and all others by their shapes. -/
theorem privilegeCheck : Obligations.PrivilegeCheck := by
  refine ⟨fun i s hi => ?_, exec_cacop, fun i p s hi => exec_withPlv p s hi⟩
  rw [exec_privileged hi]
  exact ⟨fun h => privilegedOnly_plv3 h i, fun h => privilegedOnly_plv0 h i⟩

end Sys2Proof.Machine
end

section
/-! PROOFS. Closed facts of the model: the words written out from the listing (30_encoding.md section 4) and the launch state
(70_reset_and_hazards.md R400). -/

namespace Sys2Proof.Machine

/-! ### Words written out (30_encoding.md R104) -/

/-- Settles O3: each word is the word of its instruction, so the round trip reads it back. -/
theorem decodeExampleWords : Obligations.DecodeExampleWords :=
  ⟨decode_of_word rfl rfl, decode_of_word rfl rfl, decode_of_word rfl rfl, decode_of_word rfl rfl, decode_of_word rfl rfl,
    decode_of_word rfl rfl, decode_of_word rfl rfl, decode_of_word rfl rfl, decode_of_word rfl rfl, decode_of_word rfl rfl,
    decode_of_word rfl rfl⟩

/-! ### The launch state (70_reset_and_hazards.md R400) -/

theorem inv_reset : Inv State.reset where
  zeroRegister := rfl
  reservedBits := rfl
  memory := wf_nil
  dirtySorted := .nil
  dirtyMapped := fun _ h => nomatch h

/-- Settles O11: every register and fcsr0 is 0 at launch, memory and `dirty` are empty lists. -/
theorem invAtReset : Obligations.InvAtReset := ⟨inv_reset, readGpr_zero _, rfl, rfl⟩

end Sys2Proof.Machine
end

section
/-! PROOFS. Floating-point compare, conversion, moves and fcsr0 as instructions (48_fp_cmp_cvt.md, 49_fp_move_branch_mem.md): the
rows with a flag number from the round trip of the decoder, the ends by R233, and the moves by their shapes. -/

namespace Sys2Proof.Machine

open Sys2Proof.Laws.DecodeEncode (decodeOfEncode)

/-! ### Rows with a flag number (30_encoding.md R91, R102) -/

theorem rowToFlag_of {m : Word} {i : BitVec 3 → BitVec 5 → Instr}
    (h : ∀ cd j, decode (enc2R (m.extractLsb' 10 22) j (flagSlot (m.extractLsb' 3 2) cd)) = .ok (i cd j)) :
    RowToFlag m i := fun w hw => by
  have hslot := flagSlot_split w 0 (extract_of_mask 3 2 (by decide) hw)
  have hword := enc2R_split w
  rw [extract_of_mask 10 22 (by decide) hw, ← hslot] at hword
  exact (congrArg decode hword).trans (h _ _)

theorem rowFromFlag_of {m : Word} {i : BitVec 5 → BitVec 3 → Instr}
    (h : ∀ d cj, decode (enc2R (m.extractLsb' 10 22) (flagSlot (m.extractLsb' 8 2) cj) d) = .ok (i d cj)) :
    RowFromFlag m i := fun w hw => by
  have hslot := flagSlot_split w 5 (extract_of_mask 8 2 (by decide) hw)
  have hword := enc2R_split w
  rw [extract_of_mask 10 22 (by decide) hw, ← hslot] at hword
  exact (congrArg decode hword).trans (h _ _)

theorem rowFcmp_of {m : Word} {i : BitVec 5 → BitVec 3 → BitVec 5 → BitVec 5 → Instr}
    (h : ∀ cond cd j k, decode (enc4R (m.extractLsb' 20 12) cond k j (flagSlot (m.extractLsb' 3 2) cd)) = .ok (i cond cd j k)) :
    RowFcmp m i := fun w hw => by
  have hslot := flagSlot_split w 0 (extract_of_mask 3 2 (by decide) hw)
  have hword := enc4R_split w
  rw [extract_of_mask 20 12 (by decide) hw, ← hslot] at hword
  exact (congrArg decode hword).trans (h _ _ _ _)

theorem decode_fsel {w : Word} (hw : w &&& 0xFFFC0000#32 = 0x0D000000#32) :
    decode w = .ok (.fsel (w.extractLsb' 0 5) (w.extractLsb' 5 5) (w.extractLsb' 10 5) (w.extractLsb' 15 3)) := by
  have hslot := flagSlot_split w 15 (extract_of_mask 18 2 (by decide) hw)
  have hword := enc4R_split w
  rw [extract_of_mask 20 12 (by decide) hw, ← hslot] at hword
  exact decode_of_word hword rfl

/-! ### Conversions (48_fp_cmp_cvt.md R295 to R309) -/

/-- Settles O40: the rows by the round trip, each end by that of its format. -/
theorem conversionsEndByR233 : Obligations.ConversionsEndByR233 := by
  refine ⟨row2R_of fun d j => decodeOfEncode (.fcvtSD d j) rfl, row2R_of fun d j => decodeOfEncode (.fcvtDS d j) rfl,
    row2R_of fun d j => decodeOfEncode (.ffintSW d j) rfl, row2R_of fun d j => decodeOfEncode (.ffintDW d j) rfl, ?_⟩
  rintro s fd fj lo hlo
  rw [readFpr_low] at hlo
  subst hlo
  exact ⟨endsByR233_fpResultS rfl, endsByR233_fpResultD rfl, endsByR233_fpResultS rfl, endsByR233_fpResultD rfl⟩

/-- The end of every conversion to integer: R233 with the integer in the low half (R299). -/
theorem endsByR233_ftint {i : Instr} {s : State} {fd : FprNo} {r : Word × FpExc} (h : exec i s = ftint fd r s) :
    EndsByR233 i s r.2 (fun s t => FlagsKept s t ∧ FprLowWritten fd r.1 s t) := by
  refine endsByR233_of h fun u hu => ⟨⟨fun c => ?_, ?_, fun k hk => ?_⟩, rfl, rfl, rfl, rfl, rfl, rfl, rfl, rfl⟩
  · exact readFcc_congr (by simp [hu]) c
  · exact (fprLowWritten_writeFprLow fd r.1 u).1
  · exact ((fprLowWritten_writeFprLow fd r.1 u).2 k hk).trans (readFpr_congr (by simp [hu]) k)

/-- Settles O41: the rows by the round trip; the ten forms differ in format and mode alone. -/
theorem integerConversionsEndByR233 : Obligations.IntegerConversionsEndByR233 := by
  refine ⟨row2R_of fun d j => decodeOfEncode (.ftintWS d j) rfl, row2R_of fun d j => decodeOfEncode (.ftintWD d j) rfl,
    row2R_of fun d j => decodeOfEncode (.ftintrmWS d j) rfl, row2R_of fun d j => decodeOfEncode (.ftintrmWD d j) rfl,
    row2R_of fun d j => decodeOfEncode (.ftintrpWS d j) rfl, row2R_of fun d j => decodeOfEncode (.ftintrpWD d j) rfl,
    row2R_of fun d j => decodeOfEncode (.ftintrzWS d j) rfl, row2R_of fun d j => decodeOfEncode (.ftintrzWD d j) rfl,
    row2R_of fun d j => decodeOfEncode (.ftintrneWS d j) rfl, row2R_of fun d j => decodeOfEncode (.ftintrneWD d j) rfl, ?_⟩
  rintro s fd fj i r single double rfl rfl hmem
  refine endsByR233_ftint ?_
  simp only [← operandS_eq, List.mem_cons, List.not_mem_nil, or_false, Prod.mk.injEq] at hmem
  rcases hmem with ⟨rfl, rfl⟩ | ⟨rfl, rfl⟩ | ⟨rfl, rfl⟩ | ⟨rfl, rfl⟩ | ⟨rfl, rfl⟩ | ⟨rfl, rfl⟩ | ⟨rfl, rfl⟩ | ⟨rfl, rfl⟩ |
    ⟨rfl, rfl⟩ | ⟨rfl, rfl⟩ <;> rfl

/-! ### Comparison (48_fp_cmp_cvt.md R290 to R294) -/

/-- The unlisted conditions (R294). -/
theorem fcmpCondition_isNone_iff : ∀ cond : BitVec 5, (fcmpCondition cond).isNone ↔
    cond ∈ [0x12#5, 0x13#5, 0x16#5, 0x17#5, 0x1A#5, 0x1B#5, 0x1C#5, 0x1D#5, 0x1E#5, 0x1F#5] := by decide

/-- The bits of a listed condition (R291). -/
theorem fcmpCondition_bits : ∀ (cond : BitVec 5), ∀ row ∈ fcmpCondition cond, row.2 = cond.getLsbD 0 ∧
    (.lt ∈ row.1 ↔ cond.getLsbD 1 ∨ cond.getLsbD 4) ∧ (.eq ∈ row.1 ↔ cond.getLsbD 2) ∧
    (.un ∈ row.1 ↔ cond.getLsbD 3) ∧ (.gt ∈ row.1 ↔ cond.getLsbD 4) := by decide

/-- Settles O43: the table row by row. -/
theorem conditionTableBits : Obligations.ConditionTableBits := fun cond =>
  ⟨fcmpCondition_isNone_iff cond, fun trueSet signaling h => fcmpCondition_bits cond (trueSet, signaling) h⟩

theorem fcmp_unlisted {cond : BitVec 5} (h : (fcmpCondition cond).isNone) (cd : CfNo) (a b : FpValue) (s : State) :
    fcmp cond cd a b s = .refused (.fcmpCond cond) := by
  rw [fcmp, Option.isNone_iff_eq_none.1 h]

theorem fcmp_listed {cond : BitVec 5} {trueSet : List Relation} {signaling : Bool}
    (h : fcmpCondition cond = some (trueSet, signaling)) (cd : CfNo) (a b : FpValue) (s : State) :
    fcmp cond cd a b s =
      fpFinish (fcmpExceptions signaling a b) (writeFcc cd (trueSet.contains (compareValues a b))) s := by
  rw [fcmp, h]

theorem fcmpExceptions_eq (signaling : Bool) (a b : FpValue) : fcmpExceptions signaling a b =
    if a.isSignaling ∨ b.isSignaling ∨ (signaling ∧ (a.isNan ∨ b.isNan)) then 0b10000#5 else 0 := by
  simp only [fcmpExceptions, excIf, excV, Bool.or_eq_true, Bool.and_eq_true, or_assoc]

/-- The end of a comparison by a listed condition: R233 with the flag written (R292). -/
theorem endsByR233_fcmp {i : Instr} {s : State} {cond : BitVec 5} {cd : CfNo} {a b : FpValue} {trueSet : List Relation}
    {signaling : Bool} (h : exec i s = fcmp cond cd a b s) (hcond : fcmpCondition cond = some (trueSet, signaling)) :
    EndsByR233 i s (fcmpExceptions signaling a b)
      (fun s t => FprsKept s t ∧ FccWritten cd (decide (compareValues a b ∈ trueSet)) s t) := by
  refine endsByR233_of (h.trans (fcmp_listed hcond cd a b s)) fun u hu =>
    ⟨⟨fun r => ?_, fun c => ?_⟩, rfl, rfl, rfl, rfl, rfl, rfl, rfl, rfl⟩
  · exact readFpr_congr (by simp [hu]) r
  · have hkept : readFcc c u = readFcc c s := readFcc_congr (by simp [hu]) c
    rw [← List.contains_eq_mem, ← hkept]
    exact readFcc_writeFcc cd _ u c

/-- Settles O42: the rows by the round trip; both formats end as `fcmp` does, by whether the condition is listed. -/
theorem compareEndsByR233 : Obligations.CompareEndsByR233 := by
  refine ⟨rowFcmp_of fun c d j k => decodeOfEncode (.fcmpS c d j k) rfl,
    rowFcmp_of fun c d j k => decodeOfEncode (.fcmpD c d j k) rfl, fun s cond cd fj fk i a b hmem => ?_⟩
  have hexec : exec i s = fcmp cond cd a b s := by
    simp only [← operandS_eq, List.mem_cons, List.not_mem_nil, or_false, Prod.mk.injEq] at hmem
    rcases hmem with ⟨rfl, rfl, rfl⟩ | ⟨rfl, rfl, rfl⟩ <;> rfl
  refine ⟨fun hcond => ?_, fun trueSet signaling hcond => ?_⟩
  · rw [hexec, fcmp_unlisted ((fcmpCondition_isNone_iff cond).2 hcond)]
  · obtain ⟨hsignaling, -⟩ := fcmpCondition_bits cond _ hcond
    rw [← hsignaling, ← fcmpExceptions_eq]
    exact endsByR233_fcmp hexec hcond

/-! ### Moves (49_fp_move_branch_mem.md R321 to R331) -/

/-- `zext_64(fcc[cj])` (R329). -/
theorem setWidth_boolWord (b : Bool) : (boolWord b).setWidth 64 = if b = true then 1 else 0 := by cases b <;> rfl

/-- A meaning that ends by writing the high half of a floating-point register leaves the low half (R325). -/
theorem writesFpr_of_high {i : Instr} {s : State} {fd : FprNo} {v : Word}
    (h : exec i s = .next (advance (writeFprHigh fd v s))) :
    WritesFpr i s fd (v ++ (readFpr fd s).extractLsb' 0 32 : BitVec (32 + 32)) := by
  rw [readFpr_low]
  refine ⟨_, h, fun r => ?_, rfl, fun _ => rfl, fun _ => rfl, rfl, rfl, ⟨fun _ => rfl, rfl⟩, rfl, rfl⟩
  exact (readFpr_congr (by simp) r).trans (fprWritten_writeFprHigh fd v s r)

/-- Settles O47: the rows by the round trip, each move by its shape. -/
theorem moveResults : Obligations.MoveResults := by
  refine ⟨row2R_of fun d j => decodeOfEncode (.fmovS d j) rfl, row2R_of fun d j => decodeOfEncode (.fmovD d j) rfl,
    fun w => decode_fsel, row2R_of fun d j => decodeOfEncode (.movgr2frW d j) rfl,
    row2R_of fun d j => decodeOfEncode (.movgr2frhW d j) rfl, row2R_of fun d j => decodeOfEncode (.movfr2grS d j) rfl,
    row2R_of fun d j => decodeOfEncode (.movfrh2grS d j) rfl, rowToFlag_of fun c j => decodeOfEncode (.movfr2cf c j) rfl,
    rowFromFlag_of fun d c => decodeOfEncode (.movcf2fr d c) rfl, rowToFlag_of fun c j => decodeOfEncode (.movgr2cf c j) rfl,
    rowFromFlag_of fun d c => decodeOfEncode (.movcf2gr d c) rfl, fun s fd fj fk rd rj c => ?_⟩
  exact ⟨writesFprLow_of rfl (readFpr_low fj s).symm, writesFpr_of rfl rfl, writesFpr_of rfl rfl, writesFprLow_of rfl rfl,
    writesFpr_of_high rfl, writesGpr_of rfl (readFpr_low fj s).symm, writesGpr_of rfl (readFpr_high fj s).symm,
    writesFcc_of rfl rfl, writesFpr_of rfl (setWidth_boolWord _), writesFcc_of rfl rfl, writesGpr_of rfl rfl⟩

/-! ### Access to fcsr0 (49_fp_move_branch_mem.md R332 to R334) -/

/-- `FMASK(n)` as it is listed (10_state.md R43). -/
theorem fcsrMask_eq_some : ∀ (n : BitVec 5),
    ∀ row ∈ [(0, 0x1F1F031F#32), (1, 0x0000001F#32), (2, 0x1F1F0000#32), (3, 0x00000300#32)],
      n.toNat = row.1 → fcsrMask n = some row.2 := by decide

theorem fcsrMask_eq_none : ∀ n : BitVec 5, 3 < n.toNat → fcsrMask n = none := by decide

section Fcsr
variable {n : BitVec 5} {mask : Word} (s : State) (rd rj : RegNo)

theorem exec_movgr2fcsr (h : fcsrMask n = some mask) : exec (.movgr2fcsr n rj) s =
    .next { s with fcsr0 := (s.fcsr0 &&& ~~~mask) ||| (readGpr rj s &&& mask), pc := s.pc + 4 } := by
  rw [exec, execMovgr2fcsr, h]
  rfl

theorem exec_movfcsr2gr (h : fcsrMask n = some mask) : exec (.movfcsr2gr rd n) s = gprResult rd (s.fcsr0 &&& mask) s := by
  rw [exec, execMovfcsr2gr, h]

theorem exec_movgr2fcsr_refused (h : fcsrMask n = none) : exec (.movgr2fcsr n rj) s = .refused (.fcsrIndex n) := by
  rw [exec, execMovgr2fcsr, h]

theorem exec_movfcsr2gr_refused (h : fcsrMask n = none) : exec (.movfcsr2gr rd n) s = .refused (.fcsrIndex n) := by
  rw [exec, execMovfcsr2gr, h]

end Fcsr

/-- Settles O48: the rows by the round trip, each end by whether the index has a mask. -/
theorem fcsrAccess : Obligations.FcsrAccess := by
  refine ⟨row2R_of fun d j => decodeOfEncode (.movgr2fcsr d j) rfl, row2R_of fun d j => decodeOfEncode (.movfcsr2gr d j) rfl,
    fun s rd rj n => ⟨fun hn => ?_, fun mask hmem => ?_⟩⟩
  · have hnone := fcsrMask_eq_none n hn
    exact ⟨exec_movgr2fcsr_refused s rj hnone, exec_movfcsr2gr_refused s rd hnone⟩
  · have hmask := fcsrMask_eq_some n _ hmem rfl
    exact ⟨exec_movgr2fcsr s rj hmask, writesGpr_of (exec_movfcsr2gr s rd hmask) rfl⟩

end Sys2Proof.Machine
end

section
/-! PROOFS. Comparison of values (48_fp_cmp_cvt.md R290): finite values compare as whole units of the smaller exponent. -/

namespace Sys2Proof.Machine

/-- Finite values are compared as the numbers they stand for, so +0 equals -0. -/
theorem compareValues_fin (na nb : Bool) (ma mb : ℕ) (ea eb : ℤ) : compareValues (.fin na ma ea) (.fin nb mb eb) =
    if finiteValue na ma ea < finiteValue nb mb eb then .lt
    else if finiteValue nb mb eb < finiteValue na ma ea then .gt else .eq := by
  have hunit : (0 : ℚ) < 2 ^ min ea eb := by positivity
  simp only [← scaled_mul na ma (min_le_left ea eb), ← scaled_mul nb mb (min_le_right ea eb), mul_lt_mul_iff_left₀ hunit,
    Int.cast_lt]
  rfl

/-- Of the four relations the order of two numbers leaves one. -/
theorem relation_of_order {x y : ℚ} {rel : Relation} (h : rel = if x < y then .lt else if y < x then .gt else .eq) :
    rel ≠ .un ∧ (rel = .lt ↔ x < y) ∧ (rel = .gt ↔ y < x) ∧ (rel = .eq ↔ x = y) := by
  subst h
  rcases lt_trichotomy x y with hlt | rfl | hgt
  · simp [hlt, hlt.not_gt, hlt.ne]
  · simp
  · simp [hgt, hgt.not_gt, hgt.ne']

theorem compareValues_eq_un (a b : FpValue) : compareValues a b = .un ↔ a.isNan ∨ b.isNan := by
  cases a with
  | nan => simp [compareValues, FpValue.isNan]
  | inf na => cases b with
    | nan => simp [compareValues, FpValue.isNan]
    | inf nb => cases na <;> cases nb <;> simp [compareValues, FpValue.isNan]
    | fin => cases na <;> simp [compareValues, FpValue.isNan]
  | fin na ma ea => cases b with
    | nan => simp [compareValues, FpValue.isNan]
    | inf nb => cases nb <;> simp [compareValues, FpValue.isNan]
    | fin nb mb eb => simp [(relation_of_order (compareValues_fin na nb ma mb ea eb)).1, FpValue.isNan]

/-- Settles O44: by the kinds of the two operands. -/
theorem compareRelation : Obligations.CompareRelation := by
  refine fun fmt a b => ⟨compareValues_eq_un _ _, fun x y ha hb => ?_, fun n x ha hb => ?_, fun n m ha hb => ?_⟩
  · obtain ⟨ma, ea, hua, rfl, -⟩ := unpack_of_valueOf ha
    obtain ⟨mb, eb, hub, rfl, -⟩ := unpack_of_valueOf hb
    rw [hua, hub]
    obtain ⟨-, horder⟩ := relation_of_order (compareValues_fin (signField fmt a) (signField fmt b) ma mb ea eb)
    exact horder
  · obtain ⟨m, e, hub, -⟩ := unpack_of_valueOf hb
    rw [ha, hub]
    exact ⟨rfl, rfl⟩
  · rw [ha, hb]
    rfl

end Sys2Proof.Machine
end

section
/-! PROOFS. Conversions between formats and from integers (48_fp_cmp_cvt.md R295 to R298): a value of whole units of the result is
not rounded, so the widening conversions are exact; the others round once. -/

namespace Sys2Proof.Machine

theorem abs_finiteValue (neg : Bool) (m : ℕ) (e : ℤ) : |finiteValue neg m e| = m * 2 ^ e := by
  have hpos : (0 : ℚ) ≤ m * 2 ^ e := by positivity
  rw [finiteValue_eq]
  cases neg <;> simp [abs_of_nonneg hpos]

theorem eq_zero_of_exceptions {exc : FpExc} :
    exc &&& excI = 0 → exc &&& excU = 0 → exc &&& (excV ||| excZ ||| excO) = 0 → exc = 0 := by
  revert exc; decide

/-- A value of whole units of the result is not rounded. -/
theorem roundFinite_excI {fmt : FpFormat} {env : FpEnv} {neg : Bool} {m : ℕ} {e : ℤ} (hunit : resultQuantum fmt m e ≤ e)
    (hO : (roundFinite fmt env neg m e).exc &&& excO = 0) : (roundFinite fmt env neg m e).exc &&& excI = 0 := by
  obtain ⟨J, hJ⟩ : ∃ J : ℕ, resultQuantum fmt m e = minQuantum fmt + J :=
    ⟨(resultQuantum fmt m e - minQuantum fmt).toNat, by rw [resultQuantum]; omega⟩
  rw [roundFinite_eq fmt env neg m e hJ rfl rfl] at hO ⊢
  split at hO
  · exact absurd hO overflow_exc
  · next hin =>
    rw [if_neg hin, quantize_of_le _ _ _ hunit]
    exact not_not.1 fun h => Bool.false_ne_true ((exc_and_excI _ _).1 h)

/-- The result is the number `x` with the sign `neg`, and no exception occurs. -/
def GivesExactly (fmt : FpFormat) (x : ℚ) (neg : Bool) (o : FpOut) : Prop :=
  ∃ w, o = ⟨.bits w, 0⟩ ∧ valueOf fmt w = some x ∧ signField fmt w = neg

theorem finiteValue_neg_iff {neg : Bool} {m : ℕ} {e : ℤ} (hm : m ≠ 0) : finiteValue neg m e < 0 ↔ neg = true := by
  have hpos : (0 : ℚ) < m * 2 ^ e := by positivity
  rw [finiteValue_eq]
  cases neg <;> simp [hpos, hpos.le]

/-- A value of whole units of the result, in the range of the normal numbers, is its own result. -/
theorem roundFinite_exact {fmt : FpFormat} (env : FpEnv) (neg : Bool) {m : ℕ} {e : ℤ} (hm : m ≠ 0)
    (hunit : resultQuantum fmt m e ≤ e) (hmin : minNormal fmt ≤ m * 2 ^ e) (hmax : m * 2 ^ e ≤ maxFinite fmt) :
    GivesExactly fmt (finiteValue neg m e) neg (roundFinite fmt env neg m e) := by
  have hround := correctlyRounded_finiteValue fmt env neg m e hm
  rw [← abs_finiteValue neg] at hmin hmax
  have hin : ¬Overflows fmt env.mode (finiteValue neg m e : ℚ) := not_overflows_of_le _ (by exact_mod_cast hmax)
  have hU := hround.excU_eq_zero (by exact_mod_cast hmin)
  have hI := roundFinite_excI hunit (not_not.1 fun h => hin (hround.excO_iff.1 h))
  obtain ⟨w, hw, hsign, -, hrounded⟩ := hround
  obtain ⟨r, hr, -, hinexact, -, hexc⟩ := hrounded hin
  have hexact : r = finiteValue neg m e := by exact_mod_cast not_not.1 fun h => hinexact.2 h hI
  refine ⟨w, ?_, hexact ▸ hr, ?_⟩
  · rw [← hw, ← eq_zero_of_exceptions hI hU hexc]
  · rwa [Rat.cast_lt_zero, finiteValue_neg_iff hm, ← Bool.eq_iff_iff] at hsign

/-- binary64 holds every integer of up to 53 bits times a power of two in the range of binary32. -/
theorem roundValue_double_exact (env : FpEnv) (neg : Bool) {m : ℕ} {e : ℤ} (hm : m < 2 ^ 53) (he : -149 ≤ e)
    (he' : e ≤ 104) : GivesExactly .double (finiteValue neg m e) neg (roundValue .double env neg m e) := by
  rw [roundValue]
  split
  · next hzero =>
    rw [finiteValue_eq_zero_iff.2 hzero]
    exact zeroResult_valueOf .double neg
  · next hne =>
    have hlog : m.log2 < 53 := (Nat.log2_lt hne).2 hm
    have hbits : (layout .double).fracBits = 52 := rfl
    have hquantum : minQuantum .double = -1074 := by decide
    have hone : (1 : ℚ) ≤ m := by exact_mod_cast Nat.one_le_iff_ne_zero.2 hne
    have hm' : (m : ℚ) ≤ 2 ^ (53 : ℤ) := by exact_mod_cast hm.le
    refine roundFinite_exact env neg hne (max_le (by omega) (by omega)) ?_ ?_
    · calc minNormal .double = 2 ^ (-1022 : ℤ) := by
            rw [minNormal, hbits, hquantum, ← zpow_natCast, ← zpow_add₀ two_ne_zero]; rfl
        _ ≤ 2 ^ e := zpow_le_zpow_right₀ one_le_two (by omega)
        _ ≤ m * 2 ^ e := le_mul_of_one_le_left (by positivity) hone
    · calc (m : ℚ) * 2 ^ e ≤ 2 ^ (53 : ℤ) * 2 ^ (104 : ℤ) :=
            mul_le_mul hm' (zpow_le_zpow_right₀ one_le_two he') (by positivity) (by positivity)
        _ = 2 ^ (157 : ℤ) := by rw [← zpow_add₀ two_ne_zero]; rfl
        _ ≤ maxFinite .double := two_zpow_le_maxFinite (by decide)

/-- FCVT.D.S (R296). -/
theorem fpConvert_widening_exact (env : FpEnv) {a : DWord} {x : ℚ} (ha : valueOf .single a = some x) :
    GivesExactly .double x (signField .single a) (fpConvert .double .single env a) := by
  obtain ⟨m, e, hua, rfl, hm, he, he'⟩ := unpack_of_valueOf ha
  have hmin : minQuantum .single = -149 := by decide
  have htop : topQuantum .single = 104 := by decide
  rw [fpConvert, hua]
  exact roundValue_double_exact env _ (hm.trans (by decide)) (by omega) (by omega)

theorem intCast_eq_finiteValue_zero (n : ℤ) : (n : ℚ) = finiteValue (decide (n < 0)) n.natAbs 0 := by
  rw [← intCast_eq_finiteValue, zpow_zero, mul_one]

/-- FFINT.D.W (R298). -/
theorem fpFromInt_double_exact (env : FpEnv) {n : ℤ} (hlo : -2 ^ 31 ≤ n) (hhi : n < 2 ^ 31) :
    GivesExactly .double n (decide (n < 0)) (fpFromInt .double env n) := by
  rw [intCast_eq_finiteValue_zero, fpFromInt]
  exact roundValue_double_exact env _ (by omega) (by decide) (by decide)

/-- FFINT.S.W is in the range of the normal numbers of binary32, so it raises at most I (R297). -/
theorem fpFromInt_single_exc (env : FpEnv) {n : ℤ} (hlo : -2 ^ 31 ≤ n) (hhi : n < 2 ^ 31) :
    (fpFromInt .single env n).exc &&& ~~~excI = 0 := by
  rcases eq_or_ne n 0 with rfl | hn
  · exact BitVec.zero_and
  · have hround : CorrectlyRounded .single env ((n : ℚ) : ℝ) (fpFromInt .single env n) :=
      (FiniteOperation.integer n).correctlyRounded (Int.cast_ne_zero.2 hn)
    have hone : (1 : ℚ) ≤ |(n : ℚ)| := by exact_mod_cast Int.one_le_abs hn
    have hlarge : |(n : ℚ)| ≤ 2 ^ (31 : ℤ) := by
      rw [abs_le]
      exact ⟨by exact_mod_cast hlo, by exact_mod_cast hhi.le⟩
    have hmin : minNormal .single ≤ |(n : ℚ)| :=
      calc minNormal .single = 2 ^ (-126 : ℤ) := by
            rw [minNormal, ← zpow_natCast, ← zpow_add₀ two_ne_zero]; rfl
        _ ≤ 1 := zpow_le_one_of_nonpos₀ one_le_two (by decide)
        _ ≤ |(n : ℚ)| := hone
    have hmax : |(n : ℚ)| ≤ maxFinite .single := hlarge.trans (two_zpow_le_maxFinite (by decide))
    have hU := hround.excU_eq_zero (by exact_mod_cast hmin)
    obtain ⟨w, -, -, -, hin⟩ := hround
    obtain ⟨r, -, -, -, -, hexc⟩ := hin (not_overflows_of_le _ (by exact_mod_cast hmax))
    exact and_not_excI hexc hU

/-- Settles O58: the widening conversions are exact, the narrowing ones are operations on finite operands. -/
theorem conversionsAreExact : Obligations.ConversionsAreExact := by
  intro env a n hlo hhi
  refine ⟨fun x ha => fpConvert_widening_exact env ha, fpFromInt_double_exact env hlo hhi, fun x ha hx => ?_, fun ha => ?_,
    fun hn => ?_, ?_, fpFromInt_single_exc env hlo hhi⟩
  · exact (FiniteOperation.conversion .double a x ha).correctlyRounded hx
  · obtain ⟨e, hua⟩ := unpack_of_zero ha
    rw [fpConvert, hua]
    rfl
  · exact (FiniteOperation.integer n).correctlyRounded (Int.cast_ne_zero.2 hn)
  · rintro rfl
    rfl

end Sys2Proof.Machine
end

section
/-! PROOFS. Conversion to an integer (48_fp_cmp_cvt.md R299): the value is rounded to whole units of 1 as the mode says. -/

namespace Sys2Proof.Machine

/-- `n` is `x` rounded to an integer in the mode. -/
def RoundedToInteger (mode : RoundMode) (x : ℚ) (n : ℤ) : Prop :=
  match mode with
  | .rm => n = ⌊x⌋
  | .rp => n = ⌈x⌉
  | .rz => n = if x < 0 then ⌈x⌉ else ⌊x⌋
  | .rne => |x - n| ≤ 1 / 2 ∧ (|x - n| = 1 / 2 → n % 2 = 0)

theorem RoundedToInteger.neg {mode : RoundMode} {x : ℚ} {n : ℤ} (hx : 0 ≤ x) (h : RoundedToInteger mode.flipped x n) :
    RoundedToInteger mode (-x) (-n) := by
  cases mode with
  | rm => rw [RoundedToInteger, h, Int.floor_neg]
  | rp => rw [RoundedToInteger, h, Int.ceil_neg]
  | rz =>
    rw [RoundedToInteger, h, if_neg hx.not_gt, Int.ceil_neg]
    rcases hx.eq_or_lt with rfl | hpos
    · simp
    · rw [if_pos (neg_neg_of_pos hpos)]
  | rne =>
    have habs : |-x - (-n : ℤ)| = |x - n| := by rw [← abs_neg]; push_cast; ring_nf
    rw [RoundedToInteger, habs, Int.neg_emod_two]
    exact h

/-- Of the two integers around a magnitude the one beyond the middle is taken, in the middle the even one. -/
theorem roundedToInteger_nearest {a : ℚ} {lo n : ℕ} (hlo : (lo : ℚ) ≤ a) (hhi : a < lo + 1)
    (hup : (lo + 1 / 2 < a ∨ lo + 1 / 2 = a ∧ lo % 2 = 1) ∧ n = lo + 1 ∨
      ¬(lo + 1 / 2 < a ∨ lo + 1 / 2 = a ∧ lo % 2 = 1) ∧ n = lo) :
    RoundedToInteger .rne a n := by
  obtain ⟨hmid, rfl⟩ | ⟨hmid, rfl⟩ := hup
  · have habs : |a - ((lo + 1 : ℕ) : ℤ)| = lo + 1 - a := by
      rw [abs_sub_comm, abs_of_nonneg] <;> push_cast <;> linarith
    rw [RoundedToInteger, habs]
    obtain hlt | ⟨heq, hodd⟩ := hmid
    · exact ⟨by linarith, fun htie => by linarith⟩
    · exact ⟨by linarith, fun _ => by omega⟩
  · have habs : |a - (n : ℤ)| = a - n := by
      rw [abs_of_nonneg] <;> push_cast <;> linarith
    rw [RoundedToInteger, habs]
    refine ⟨?_, fun htie => ?_⟩
    · by_contra hgt
      exact hmid (.inl (by linarith))
    · by_contra hodd
      exact hmid (.inr ⟨by linarith, by omega⟩)

/-- A magnitude rounded to whole units of 1. -/
theorem roundedToInteger_of_quantized {mode : RoundMode} {a : ℚ} {r : ℕ × Bool} (h : Quantized mode false a 0 r) :
    RoundedToInteger mode a r.1 := by
  obtain ⟨lo, hlo, hhi, -, hup⟩ := h
  rw [zpow_zero, mul_one] at hlo hhi
  have hlo' : (lo : ℚ) ≤ a := by exact_mod_cast hlo
  have hhi' : a < lo + 1 := by exact_mod_cast hhi
  have hfloor : ⌊a⌋ = lo := Int.floor_eq_iff.2 ⟨hlo', hhi'⟩
  have hnonneg : 0 ≤ a := (Nat.cast_nonneg lo).trans hlo'
  cases mode with
  | rm =>
    obtain ⟨⟨hneg, -⟩, -⟩ | ⟨-, hr⟩ := hup
    · cases hneg
    · rw [RoundedToInteger, hr, hfloor]
  | rz =>
    obtain ⟨hfalse, -⟩ | ⟨-, hr⟩ := hup
    · exact hfalse.elim
    · rw [RoundedToInteger, if_neg hnonneg.not_gt, hr, hfloor]
  | rp =>
    simp only [RoundsUp, zpow_zero, mul_one, true_and, not_not] at hup
    rw [RoundedToInteger, eq_comm, Int.ceil_eq_iff]
    obtain ⟨hne, hr⟩ | ⟨heq, hr⟩ := hup
    · have hlt : (lo : ℚ) < a := hlo'.lt_of_ne (by exact_mod_cast hne)
      rw [hr]
      push_cast
      exact ⟨by linarith, hhi'.le⟩
    · have heq' : (lo : ℚ) = a := by exact_mod_cast heq
      rw [hr]
      push_cast
      exact ⟨by linarith, heq'.ge⟩
  | rne =>
    have hhalf : (2 * lo + 1) * (2 : ℝ) ^ (0 - 1 : ℤ) = ((lo + 1 / 2 : ℚ) : ℝ) := by push_cast; norm_num; ring
    rw [RoundsUp, hhalf, Rat.cast_lt, Rat.cast_inj] at hup
    exact roundedToInteger_nearest hlo' hhi' hup

theorem signedInt_eq (neg : Bool) (n : ℕ) : (signedInt neg n : ℚ) = signOf neg * n := by
  cases neg <;> simp [signedInt]

/-- What `quantize` gives in units of 1, with the sign, is the value rounded to an integer. -/
theorem roundedToInteger_quantize (mode : RoundMode) (neg : Bool) (m : ℕ) (e : ℤ) :
    RoundedToInteger mode (finiteValue neg m e) (signedInt neg (quantize mode neg m e 0).1) := by
  have hq := quantized_quantize mode neg m e 0
  rw [← cast_units] at hq
  rw [finiteValue_eq]
  cases neg with
  | false => simpa [signedInt] using roundedToInteger_of_quantized hq
  | true =>
    have h := (roundedToInteger_of_quantized hq.flipped).neg (by positivity)
    simpa [signedInt] using h

/-- The flag of `quantize` says whether the value is no integer. -/
theorem quantize_inexact_iff (mode : RoundMode) (neg : Bool) (m : ℕ) (e : ℤ) : (quantize mode neg m e 0).2 = true ↔
    (signedInt neg (quantize mode neg m e 0).1 : ℚ) ≠ finiteValue neg m e := by
  rw [(quantized_quantize mode neg m e 0).inexact_iff, zpow_zero, mul_one, ← cast_units, ← Rat.cast_natCast, Ne, Rat.cast_inj,
    finiteValue_eq, signedInt_eq]
  cases neg <;> simp

section ToSint32
variable {fmt : FpFormat} {a : DWord} {neg : Bool} {m : ℕ} {e : ℤ} (mode : RoundMode)

theorem toSint32_outOfRange (ha : unpack fmt a = .fin neg m e)
    (h : signedInt neg (quantize mode neg m e 0).1 < -2 ^ 31 ∨ 2 ^ 31 - 1 < signedInt neg (quantize mode neg m e 0).1) :
    toSint32 fmt mode a = (Config.ftintInvalid fmt a, excV) := by
  simp only [toSint32, ha]
  exact if_pos h

theorem toSint32_inRange (ha : unpack fmt a = .fin neg m e) (hlo : -2 ^ 31 ≤ signedInt neg (quantize mode neg m e 0).1)
    (hhi : signedInt neg (quantize mode neg m e 0).1 ≤ 2 ^ 31 - 1) :
    toSint32 fmt mode a =
      (BitVec.ofInt 32 (signedInt neg (quantize mode neg m e 0).1), excIf (quantize mode neg m e 0).2 excI) := by
  simp only [toSint32, ha]
  exact if_neg (by omega)

/-- A NaN or an infinity is no integer. -/
theorem toSint32_notFinite (h : valueOf fmt a = none) : toSint32 fmt mode a = (Config.ftintInvalid fmt a, excV) := by
  rcases unpack_kinds fmt a with ⟨s, ha⟩ | ha | ⟨m, e, ha⟩
  · simp only [toSint32, ha]
  · simp only [toSint32, ha]
  · rw [valueOf_of_fin ha] at h
    cases h

end ToSint32

/-- Settles O59: the finite value rounded in units of 1, by whether the integer is in range. -/
theorem toIntegerIsCorrect : Obligations.ToIntegerIsCorrect := by
  refine fun fmt mode a => ⟨fun x hx => ?_, fun hnone => by rw [toSint32_notFinite mode hnone]⟩
  obtain ⟨m, e, ha, rfl, -⟩ := unpack_of_valueOf hx
  generalize signField fmt a = neg at *
  refine ⟨signedInt neg (quantize mode neg m e 0).1, ?_, fun hout => ?_, fun hlo hhi => ?_⟩
  · have hround := roundedToInteger_quantize mode neg m e
    cases mode <;> exact hround
  · rw [toSint32_outOfRange mode ha hout]
  · have hexc := quantize_inexact_iff mode neg m e
    rw [toSint32_inRange mode ha hlo hhi, excIf]
    by_cases hinexact : (quantize mode neg m e 0).2 = true
    · rw [if_pos hinexact, if_neg (hexc.1 hinexact)]
    · rw [if_neg hinexact, if_pos (not_not.1 (hexc.not.1 hinexact))]

end Sys2Proof.Machine
end
